-- ==== Sys2Proof/Word.lean ====
section
/-! DEFINITION. The word types of the block (00_scope.md R9 to R13). -/

namespace Sys2Proof

/-- An input byte or an output character: 8 bits (10_state.md R29, R36). -/
abbrev Byte := BitVec 8

/-- The 32-bit instruction word assembled from four input bytes (00_scope.md R9). -/
abbrev Word := BitVec 32

/-- A register index of the decoded ISA, 0 to 31 (10_state.md R21, 00_scope.md R13). The block has no register
behind it, and no index is special. -/
abbrev Reg := Fin 32

/-- The immediate of a record: 32 bits, read as a two's-complement signed integer (10_state.md R31). -/
abbrev Imm := BitVec 32

end Sys2Proof
end

