-- ==== Sys2Proof/Config.lean ====
section
/-! DEFINITION. What an implementation fixes, the vocabulary of the two ROMs, and the free values.
The ROMs' default contents are data of Sys2Proof/Decode.lean and Sys2Proof/Machine/NameRom.lean, and the State holds
them (10_state.md R26, R27). -/

namespace Sys2Proof

/-- `MNEM_CODE_W`, the width of a mnemonic code: 8 bits by default (00_scope.md R9, D2). -/
abbrev Config.mnemCodeW : Nat := 8

/-- A mnemonic code (10_state.md R33). -/
abbrev MnemCode := BitVec Config.mnemCodeW

/-- The eight encoding shapes (30_encoding.md R84), under the short names of that rule. -/
inductive Shape where
  | r | i | s | b | u | j | amo | sh
deriving DecidableEq, Repr

/-- The closed enumeration of the 93 mnemonics, in the order of their codes (48_formatter.md R314). -/
inductive Mnemonic where
  | lb | lh | lw | ld | lbu | lhu | lwu | sb | sh | sw
  | sd
  | addi | slti | sltiu | xori | ori | andi | slli | srli | srai | lui
  | auipc | addiw | slliw | srliw | sraiw
  | add | sub | sll | slt | sltu | xor | srl | sra | or | and
  | mul | mulh | mulhsu | mulhu | div | divu | rem | remu | addw | subw
  | sllw | srlw | sraw | mulw | divw | divuw | remw | remuw
  | lrW | scW | amoswapW | amoaddW | amoxorW | amoandW | amoorW | amominW | amomaxW | amominuW
  | amomaxuW | lrD | scD | amoswapD | amoaddD | amoxorD | amoandD | amoorD | amominD | amomaxD
  | amominuD | amomaxuD
  | beq | bne | blt | bge | bltu | bgeu | jalr | jal
  | ecall | csrrw | csrrs | csrrc | csrrwi | csrrsi | csrrci | fence | fencei
deriving DecidableEq, Repr

/-- The instruction record: the Decoder's output and the Formatter's input (10_state.md R31). A register field is
`none` (absent) or `some n` with n in 0 to 31 (R32). The formatter takes any code and any combination of fields
(R35), so nothing here ties the fields to a shape. -/
structure Record where
  mnemonic : MnemCode
  rd : Option Reg
  rs1 : Option Reg
  rs2 : Option Reg
  rs3 : Option Reg
  imm : Imm
deriving DecidableEq, Repr, Inhabited

/-- How a ROM row tests the 7-bit `funct7` field (30_encoding.md R96, R97; 44_atomic.md R240): not at all, bit 5
alone, bits 6..2 alone, or all of it. -/
inductive Funct7Sel where
  | any
  | bit5 (v : Bool)
  | hi5 (v : BitVec 5)
  | exactly (v : BitVec 7)
deriving DecidableEq, Repr

/-- One row of `MNEM_ROM`: the field values that select it (`none`: funct3 is not examined) and its mnemonic. The
row's shape is the mnemonic's, since "no two shapes ever apply to the same mnemonic" (30_encoding.md R85). -/
structure MnemRow where
  opcode : BitVec 5
  funct3 : Option (BitVec 3)
  funct7 : Funct7Sel
  mnemonic : Mnemonic
deriving DecidableEq, Repr

/-- The mnemonic lookup ROM as a table of rows (10_state.md R26, 30_encoding.md R96). -/
abbrev MnemRom := List MnemRow

/-- One entry of `NAME_ROM`: a code and its token in ASCII (10_state.md R27, 48_formatter.md R324). -/
structure NameRow where
  code : MnemCode
  token : List Byte
deriving DecidableEq, Repr

/-- The enumeration-to-string ROM (10_state.md R27); a code with no entry has no token. -/
abbrev NameRom := List NameRow

/-- What a free byte is drawn for: a read by the Decoder, or the contents an overlapped cell is left with. -/
inductive DrawUse where
  | read | left
deriving DecidableEq, Repr

/-- FREE VALUE (log entries 4 and 6): a byte that nothing constrains, for request number `draw` and cell `i`. It
stands for a cell the caller promised and did not supply (93_implementation_defined.md section 2) and for an
overlapped cell (70_reset_and_hazards.md R387). -/
opaque Config.freeByte : (draw : Nat) → DrawUse → (i : Nat) → Byte

/-- FREE VALUE (log entry 5): which of the values that cell `i` held during the decode the Decoder saw
(70_reset_and_hazards.md R386). -/
opaque Config.freeChoice : (draw : Nat) → (i : Nat) → Nat

/-- FREE VALUE (log entry 7): the record on the Decoder's output when no decode has answered OK
(10_state.md R30, 60_exceptions.md R353). -/
opaque Config.freeRecord : (draw : Nat) → Record

end Sys2Proof
end

