-- ==== Sys2Proof/Syntax.lean ====
section
/-! DEFINITION. The decoded instructions: one constructor per row of spec/opcode_table.json, in mnemonic-code order.
A constructor's arguments are the operand fields that the row's rule says the record carries, in the order rd, rs1,
rs2, imm; `imm` is the assembled 32-bit immediate (30_encoding.md R86 to R93). -/

namespace Sys2Proof

inductive Instr where
  -- Loads and stores (41_loads_stores.md)
  | lb (rd rs1 : Reg) (imm : Imm)
  | lh (rd rs1 : Reg) (imm : Imm)
  | lw (rd rs1 : Reg) (imm : Imm)
  | ld (rd rs1 : Reg) (imm : Imm)
  | lbu (rd rs1 : Reg) (imm : Imm)
  | lhu (rd rs1 : Reg) (imm : Imm)
  | lwu (rd rs1 : Reg) (imm : Imm)
  | sb (rs1 rs2 : Reg) (imm : Imm)
  | sh (rs1 rs2 : Reg) (imm : Imm)
  | sw (rs1 rs2 : Reg) (imm : Imm)
  | sd (rs1 rs2 : Reg) (imm : Imm)
  -- Integer-immediate, shift-immediate and upper-immediate rows (42_integer_immediate.md)
  | addi (rd rs1 : Reg) (imm : Imm)
  | slti (rd rs1 : Reg) (imm : Imm)
  | sltiu (rd rs1 : Reg) (imm : Imm)
  | xori (rd rs1 : Reg) (imm : Imm)
  | ori (rd rs1 : Reg) (imm : Imm)
  | andi (rd rs1 : Reg) (imm : Imm)
  | slli (rd rs1 : Reg) (imm : Imm)
  | srli (rd rs1 : Reg) (imm : Imm)
  | srai (rd rs1 : Reg) (imm : Imm)
  | lui (rd : Reg) (imm : Imm)
  | auipc (rd : Reg) (imm : Imm)
  | addiw (rd rs1 : Reg) (imm : Imm)
  | slliw (rd rs1 : Reg) (imm : Imm)
  | srliw (rd rs1 : Reg) (imm : Imm)
  | sraiw (rd rs1 : Reg) (imm : Imm)
  -- Register-register, multiply-divide and 32-bit-narrow rows (43_integer_register.md)
  | add (rd rs1 rs2 : Reg)
  | sub (rd rs1 rs2 : Reg)
  | sll (rd rs1 rs2 : Reg)
  | slt (rd rs1 rs2 : Reg)
  | sltu (rd rs1 rs2 : Reg)
  | xor (rd rs1 rs2 : Reg)
  | srl (rd rs1 rs2 : Reg)
  | sra (rd rs1 rs2 : Reg)
  | or (rd rs1 rs2 : Reg)
  | and (rd rs1 rs2 : Reg)
  | mul (rd rs1 rs2 : Reg)
  | mulh (rd rs1 rs2 : Reg)
  | mulhsu (rd rs1 rs2 : Reg)
  | mulhu (rd rs1 rs2 : Reg)
  | div (rd rs1 rs2 : Reg)
  | divu (rd rs1 rs2 : Reg)
  | rem (rd rs1 rs2 : Reg)
  | remu (rd rs1 rs2 : Reg)
  | addw (rd rs1 rs2 : Reg)
  | subw (rd rs1 rs2 : Reg)
  | sllw (rd rs1 rs2 : Reg)
  | srlw (rd rs1 rs2 : Reg)
  | sraw (rd rs1 rs2 : Reg)
  | mulw (rd rs1 rs2 : Reg)
  | divw (rd rs1 rs2 : Reg)
  | divuw (rd rs1 rs2 : Reg)
  | remw (rd rs1 rs2 : Reg)
  | remuw (rd rs1 rs2 : Reg)
  -- Atomic-memory rows (44_atomic.md)
  | lrW (rd rs1 rs2 : Reg) (imm : Imm)
  | scW (rd rs1 rs2 : Reg) (imm : Imm)
  | amoswapW (rd rs1 rs2 : Reg) (imm : Imm)
  | amoaddW (rd rs1 rs2 : Reg) (imm : Imm)
  | amoxorW (rd rs1 rs2 : Reg) (imm : Imm)
  | amoandW (rd rs1 rs2 : Reg) (imm : Imm)
  | amoorW (rd rs1 rs2 : Reg) (imm : Imm)
  | amominW (rd rs1 rs2 : Reg) (imm : Imm)
  | amomaxW (rd rs1 rs2 : Reg) (imm : Imm)
  | amominuW (rd rs1 rs2 : Reg) (imm : Imm)
  | amomaxuW (rd rs1 rs2 : Reg) (imm : Imm)
  | lrD (rd rs1 rs2 : Reg) (imm : Imm)
  | scD (rd rs1 rs2 : Reg) (imm : Imm)
  | amoswapD (rd rs1 rs2 : Reg) (imm : Imm)
  | amoaddD (rd rs1 rs2 : Reg) (imm : Imm)
  | amoxorD (rd rs1 rs2 : Reg) (imm : Imm)
  | amoandD (rd rs1 rs2 : Reg) (imm : Imm)
  | amoorD (rd rs1 rs2 : Reg) (imm : Imm)
  | amominD (rd rs1 rs2 : Reg) (imm : Imm)
  | amomaxD (rd rs1 rs2 : Reg) (imm : Imm)
  | amominuD (rd rs1 rs2 : Reg) (imm : Imm)
  | amomaxuD (rd rs1 rs2 : Reg) (imm : Imm)
  -- Branches and jumps (45_control_transfer.md)
  | beq (rs1 rs2 : Reg) (imm : Imm)
  | bne (rs1 rs2 : Reg) (imm : Imm)
  | blt (rs1 rs2 : Reg) (imm : Imm)
  | bge (rs1 rs2 : Reg) (imm : Imm)
  | bltu (rs1 rs2 : Reg) (imm : Imm)
  | bgeu (rs1 rs2 : Reg) (imm : Imm)
  | jalr (rd rs1 : Reg) (imm : Imm)
  | jal (rd : Reg) (imm : Imm)
  -- System and misc-mem rows (46_system_misc_mem.md)
  | ecall (rd rs1 : Reg) (imm : Imm)
  | csrrw (rd rs1 : Reg) (imm : Imm)
  | csrrs (rd rs1 : Reg) (imm : Imm)
  | csrrc (rd rs1 : Reg) (imm : Imm)
  | csrrwi (rd rs1 : Reg) (imm : Imm)
  | csrrsi (rd rs1 : Reg) (imm : Imm)
  | csrrci (rd rs1 : Reg) (imm : Imm)
  | fence (rd rs1 : Reg) (imm : Imm)
  | fencei (rd rs1 : Reg) (imm : Imm)
deriving DecidableEq, Repr

end Sys2Proof
end

