-- ==== Sys2Proof/WellFormed.lean ====
section
/-! DEFINITION. Which instructions have an encoding: the immediate lies in its shape's range (30_encoding.md R86 to
R94). Register indices are in 0 to 31 by their type. -/

namespace Sys2Proof

/-- I and S shapes: -2048 to 2047 (30_encoding.md R87, R88). -/
def immI (imm : Imm) : Bool := decide (-2048 ≤ imm.toInt ∧ imm.toInt ≤ 2047)

/-- B shape: even, -4096 to 4094 (30_encoding.md R89). -/
def immB (imm : Imm) : Bool := decide (-4096 ≤ imm.toInt ∧ imm.toInt ≤ 4094 ∧ imm.toNat % 2 = 0)

/-- U shape: a multiple of 4096 (30_encoding.md R90). -/
def immU (imm : Imm) : Bool := decide (imm.toNat % 4096 = 0)

/-- J shape: even, -1048576 to 1048574 (30_encoding.md R91). -/
def immJ (imm : Imm) : Bool := decide (-1048576 ≤ imm.toInt ∧ imm.toInt ≤ 1048574 ∧ imm.toNat % 2 = 0)

/-- AMO shape: the 2-bit ordering field, 0 to 3 (30_encoding.md R92). -/
def immAmo (imm : Imm) : Bool := decide (imm.toNat ≤ 3)

/-- SH shape: the 6-bit shift amount, 0 to 63 (30_encoding.md R93). -/
def immSh (imm : Imm) : Bool := decide (imm.toNat ≤ 63)

/-- The immediate lies in the range of the row's shape; register-register rows have none. -/
def Instr.wellFormed : Instr → Bool
  | .lb _ _ imm => immI imm
  | .lh _ _ imm => immI imm
  | .lw _ _ imm => immI imm
  | .ld _ _ imm => immI imm
  | .lbu _ _ imm => immI imm
  | .lhu _ _ imm => immI imm
  | .lwu _ _ imm => immI imm
  | .sb _ _ imm => immI imm
  | .sh _ _ imm => immI imm
  | .sw _ _ imm => immI imm
  | .sd _ _ imm => immI imm
  | .addi _ _ imm => immI imm
  | .slti _ _ imm => immI imm
  | .sltiu _ _ imm => immI imm
  | .xori _ _ imm => immI imm
  | .ori _ _ imm => immI imm
  | .andi _ _ imm => immI imm
  | .slli _ _ imm => immSh imm
  | .srli _ _ imm => immSh imm
  | .srai _ _ imm => immSh imm
  | .lui _ imm => immU imm
  | .auipc _ imm => immU imm
  | .addiw _ _ imm => immI imm
  | .slliw _ _ imm => immSh imm
  | .srliw _ _ imm => immSh imm
  | .sraiw _ _ imm => immSh imm
  | .add _ _ _ => true
  | .sub _ _ _ => true
  | .sll _ _ _ => true
  | .slt _ _ _ => true
  | .sltu _ _ _ => true
  | .xor _ _ _ => true
  | .srl _ _ _ => true
  | .sra _ _ _ => true
  | .or _ _ _ => true
  | .and _ _ _ => true
  | .mul _ _ _ => true
  | .mulh _ _ _ => true
  | .mulhsu _ _ _ => true
  | .mulhu _ _ _ => true
  | .div _ _ _ => true
  | .divu _ _ _ => true
  | .rem _ _ _ => true
  | .remu _ _ _ => true
  | .addw _ _ _ => true
  | .subw _ _ _ => true
  | .sllw _ _ _ => true
  | .srlw _ _ _ => true
  | .sraw _ _ _ => true
  | .mulw _ _ _ => true
  | .divw _ _ _ => true
  | .divuw _ _ _ => true
  | .remw _ _ _ => true
  | .remuw _ _ _ => true
  | .lrW _ _ _ imm => immAmo imm
  | .scW _ _ _ imm => immAmo imm
  | .amoswapW _ _ _ imm => immAmo imm
  | .amoaddW _ _ _ imm => immAmo imm
  | .amoxorW _ _ _ imm => immAmo imm
  | .amoandW _ _ _ imm => immAmo imm
  | .amoorW _ _ _ imm => immAmo imm
  | .amominW _ _ _ imm => immAmo imm
  | .amomaxW _ _ _ imm => immAmo imm
  | .amominuW _ _ _ imm => immAmo imm
  | .amomaxuW _ _ _ imm => immAmo imm
  | .lrD _ _ _ imm => immAmo imm
  | .scD _ _ _ imm => immAmo imm
  | .amoswapD _ _ _ imm => immAmo imm
  | .amoaddD _ _ _ imm => immAmo imm
  | .amoxorD _ _ _ imm => immAmo imm
  | .amoandD _ _ _ imm => immAmo imm
  | .amoorD _ _ _ imm => immAmo imm
  | .amominD _ _ _ imm => immAmo imm
  | .amomaxD _ _ _ imm => immAmo imm
  | .amominuD _ _ _ imm => immAmo imm
  | .amomaxuD _ _ _ imm => immAmo imm
  | .beq _ _ imm => immB imm
  | .bne _ _ imm => immB imm
  | .blt _ _ imm => immB imm
  | .bge _ _ imm => immB imm
  | .bltu _ _ imm => immB imm
  | .bgeu _ _ imm => immB imm
  | .jalr _ _ imm => immI imm
  | .jal _ imm => immJ imm
  | .ecall _ _ imm => immI imm
  | .csrrw _ _ imm => immI imm
  | .csrrs _ _ imm => immI imm
  | .csrrc _ _ imm => immI imm
  | .csrrwi _ _ imm => immI imm
  | .csrrsi _ _ imm => immI imm
  | .csrrci _ _ imm => immI imm
  | .fence _ _ imm => immI imm
  | .fencei _ _ imm => immI imm

end Sys2Proof
end

