-- ==== Sys2Proof/Decode.lean ====
section
/-! DEFINITION. The Decoder: the opcode field extractor, the mnemonic lookup ROM and the operand field multiplexer
(30_encoding.md, 40_decode_pipeline.md), and after them the model's own encoder. -/

namespace Sys2Proof

/-! ## Fields of the word -/

/-- The word is assembled little-endian (20_memory.md R52, 40_decode_pipeline.md R125). -/
def assemble (b0 b1 b2 b3 : Byte) : Word := b3 ++ b2 ++ b1 ++ b0

/-- The four bytes of a word in buffer order: the inverse of `assemble`. -/
def wordBytes (w : Word) : List Byte :=
  [w.extractLsb' 0 8, w.extractLsb' 8 8, w.extractLsb' 16 8, w.extractLsb' 24 8]

/-- `opcode = word[6:2]` (30_encoding.md R80). -/
def opcodeOf (w : Word) : BitVec 5 := w.extractLsb' 2 5

/-- `funct3 = word[14:12]` (30_encoding.md R80). -/
def funct3Of (w : Word) : BitVec 3 := w.extractLsb' 12 3

/-- `funct7 = word[31:25]` (30_encoding.md R80). -/
def funct7Of (w : Word) : BitVec 7 := w.extractLsb' 25 7

/-- A 5-bit register index as a register. -/
def regOf (v : BitVec 5) : Reg := v.toFin

/-- `rd` from `word[11:7]` (30_encoding.md R82). -/
def rdOf (w : Word) : Reg := regOf (w.extractLsb' 7 5)

/-- `rs1` from `word[19:15]` (30_encoding.md R82). -/
def rs1Of (w : Word) : Reg := regOf (w.extractLsb' 15 5)

/-- `rs2` from `word[24:20]` (30_encoding.md R82). -/
def rs2Of (w : Word) : Reg := regOf (w.extractLsb' 20 5)

/-- I: `sext_32(word[31:20])` (30_encoding.md R87). -/
def immIOf (w : Word) : Imm := (w.extractLsb' 20 12).signExtend 32

/-- S: `sext_32({word[31:25], word[11:7]})` (30_encoding.md R88). -/
def immSOf (w : Word) : Imm := (w.extractLsb' 25 7 ++ w.extractLsb' 7 5).signExtend 32

/-- B: `sext_32({word[31], word[7], word[30:25], word[11:8], 1'b0})` (30_encoding.md R89). -/
def immBOf (w : Word) : Imm :=
  (w.extractLsb' 31 1 ++ w.extractLsb' 7 1 ++ w.extractLsb' 25 6 ++ w.extractLsb' 8 4 ++ 0#1).signExtend 32

/-- U: `{word[31:12], 12'b0}` (30_encoding.md R90). -/
def immUOf (w : Word) : Imm := w.extractLsb' 12 20 ++ 0#12

/-- J: `sext_32({word[31], word[19:12], word[20], word[30:21], 1'b0})` (30_encoding.md R91). -/
def immJOf (w : Word) : Imm :=
  (w.extractLsb' 31 1 ++ w.extractLsb' 12 8 ++ w.extractLsb' 20 1 ++ w.extractLsb' 21 10 ++ 0#1).signExtend 32

/-- AMO: `zext_32(word[26:25])` (30_encoding.md R92). -/
def immAmoOf (w : Word) : Imm := (w.extractLsb' 25 2).setWidth 32

/-- SH: `zext_32(word[25:20])` (30_encoding.md R93). -/
def immShOf (w : Word) : Imm := (w.extractLsb' 20 6).setWidth 32

/-! ## Shapes and mnemonic codes -/

/-- The `rd` column of 30_encoding.md R84. -/
def Shape.hasRd : Shape → Bool
  | .r | .i | .u | .j | .amo | .sh => true
  | .s | .b => false

/-- The `rs1` column of 30_encoding.md R84. -/
def Shape.hasRs1 : Shape → Bool
  | .r | .i | .s | .b | .amo | .sh => true
  | .u | .j => false

/-- The `rs2` column of 30_encoding.md R84. -/
def Shape.hasRs2 : Shape → Bool
  | .r | .s | .b | .amo => true
  | .i | .u | .j | .sh => false

/-- The `imm` column of 30_encoding.md R84; the register-register shape has none, so 0. -/
def Shape.immOf : Shape → Word → Imm
  | .r, _ => 0
  | .i, w => immIOf w
  | .s, w => immSOf w
  | .b, w => immBOf w
  | .u, w => immUOf w
  | .j, w => immJOf w
  | .amo, w => immAmoOf w
  | .sh, w => immShOf w

/-- Every row's shape (30_encoding.md R85 and the row rules R153 to R301). -/
def Mnemonic.shape : Mnemonic → Shape
  | .lb | .lh | .lw | .ld | .lbu | .lhu | .lwu => .i
  | .sb | .sh | .sw | .sd => .s
  | .addi | .slti | .sltiu | .xori | .ori | .andi => .i
  | .slli | .srli | .srai => .sh
  | .lui | .auipc => .u
  | .addiw => .i
  | .slliw | .srliw | .sraiw => .sh
  | .add | .sub | .sll | .slt | .sltu | .xor | .srl | .sra
  | .or | .and | .mul | .mulh | .mulhsu | .mulhu | .div | .divu
  | .rem | .remu | .addw | .subw | .sllw | .srlw | .sraw | .mulw
  | .divw | .divuw | .remw | .remuw => .r
  | .lrW | .scW | .amoswapW | .amoaddW | .amoxorW | .amoandW | .amoorW | .amominW
  | .amomaxW | .amominuW | .amomaxuW | .lrD | .scD | .amoswapD | .amoaddD | .amoxorD
  | .amoandD | .amoorD | .amominD | .amomaxD | .amominuD | .amomaxuD => .amo
  | .beq | .bne | .blt | .bge | .bltu | .bgeu => .b
  | .jalr => .i
  | .jal => .j
  | .ecall | .csrrw | .csrrs | .csrrc | .csrrwi | .csrrsi | .csrrci | .fence
  | .fencei => .i

/-- The mnemonic codes 1 to 93 (10_state.md R33, 48_formatter.md R314). -/
def Mnemonic.code : Mnemonic → MnemCode
  | .lb => 1
  | .lh => 2
  | .lw => 3
  | .ld => 4
  | .lbu => 5
  | .lhu => 6
  | .lwu => 7
  | .sb => 8
  | .sh => 9
  | .sw => 10
  | .sd => 11
  | .addi => 12
  | .slti => 13
  | .sltiu => 14
  | .xori => 15
  | .ori => 16
  | .andi => 17
  | .slli => 18
  | .srli => 19
  | .srai => 20
  | .lui => 21
  | .auipc => 22
  | .addiw => 23
  | .slliw => 24
  | .srliw => 25
  | .sraiw => 26
  | .add => 27
  | .sub => 28
  | .sll => 29
  | .slt => 30
  | .sltu => 31
  | .xor => 32
  | .srl => 33
  | .sra => 34
  | .or => 35
  | .and => 36
  | .mul => 37
  | .mulh => 38
  | .mulhsu => 39
  | .mulhu => 40
  | .div => 41
  | .divu => 42
  | .rem => 43
  | .remu => 44
  | .addw => 45
  | .subw => 46
  | .sllw => 47
  | .srlw => 48
  | .sraw => 49
  | .mulw => 50
  | .divw => 51
  | .divuw => 52
  | .remw => 53
  | .remuw => 54
  | .lrW => 55
  | .scW => 56
  | .amoswapW => 57
  | .amoaddW => 58
  | .amoxorW => 59
  | .amoandW => 60
  | .amoorW => 61
  | .amominW => 62
  | .amomaxW => 63
  | .amominuW => 64
  | .amomaxuW => 65
  | .lrD => 66
  | .scD => 67
  | .amoswapD => 68
  | .amoaddD => 69
  | .amoxorD => 70
  | .amoandD => 71
  | .amoorD => 72
  | .amominD => 73
  | .amomaxD => 74
  | .amominuD => 75
  | .amomaxuD => 76
  | .beq => 77
  | .bne => 78
  | .blt => 79
  | .bge => 80
  | .bltu => 81
  | .bgeu => 82
  | .jalr => 83
  | .jal => 84
  | .ecall => 85
  | .csrrw => 86
  | .csrrs => 87
  | .csrrc => 88
  | .csrrwi => 89
  | .csrrsi => 90
  | .csrrci => 91
  | .fence => 92
  | .fencei => 93

/-! ## The mnemonic lookup ROM -/

/-- Opcodes 0x00 and 0x08, by funct3 (41_loads_stores.md R150, R151). -/
def mnemRomLoadStore : MnemRom := [
  ⟨0x00, some 0, .any, .lb⟩,
  ⟨0x00, some 1, .any, .lh⟩,
  ⟨0x00, some 2, .any, .lw⟩,
  ⟨0x00, some 3, .any, .ld⟩,
  ⟨0x00, some 4, .any, .lbu⟩,
  ⟨0x00, some 5, .any, .lhu⟩,
  ⟨0x00, some 6, .any, .lwu⟩,
  ⟨0x08, some 0, .any, .sb⟩,
  ⟨0x08, some 1, .any, .sh⟩,
  ⟨0x08, some 2, .any, .sw⟩,
  ⟨0x08, some 3, .any, .sd⟩]

/-- Opcodes 0x04 and 0x06, by funct3 and for funct3 = 5 by funct7 bit 5; single-row opcodes 0x0D and 0x05
(42_integer_immediate.md R170 to R172; 30_encoding.md R97). -/
def mnemRomIntImmA : MnemRom := [
  ⟨0x04, some 0, .any, .addi⟩,
  ⟨0x04, some 2, .any, .slti⟩,
  ⟨0x04, some 3, .any, .sltiu⟩,
  ⟨0x04, some 4, .any, .xori⟩,
  ⟨0x04, some 6, .any, .ori⟩,
  ⟨0x04, some 7, .any, .andi⟩,
  ⟨0x04, some 1, .any, .slli⟩,
  ⟨0x04, some 5, .bit5 false, .srli⟩,
  ⟨0x04, some 5, .bit5 true, .srai⟩,
  ⟨0x0D, none, .any, .lui⟩,
  ⟨0x05, none, .any, .auipc⟩,
  ⟨0x06, some 0, .any, .addiw⟩]

/-- Opcodes 0x04 and 0x06, by funct3 and for funct3 = 5 by funct7 bit 5; single-row opcodes 0x0D and 0x05
(42_integer_immediate.md R170 to R172; 30_encoding.md R97). -/
def mnemRomIntImmB : MnemRom := [
  ⟨0x06, some 1, .any, .slliw⟩,
  ⟨0x06, some 5, .bit5 false, .srliw⟩,
  ⟨0x06, some 5, .bit5 true, .sraiw⟩]

/-- Opcodes 0x0C and 0x0E, by funct7 and funct3 (43_integer_register.md R200, R201). -/
def mnemRomIntRegA : MnemRom := [
  ⟨0x0C, some 0, .exactly 0x00, .add⟩,
  ⟨0x0C, some 0, .exactly 0x20, .sub⟩,
  ⟨0x0C, some 1, .exactly 0x00, .sll⟩,
  ⟨0x0C, some 2, .exactly 0x00, .slt⟩,
  ⟨0x0C, some 3, .exactly 0x00, .sltu⟩,
  ⟨0x0C, some 4, .exactly 0x00, .xor⟩,
  ⟨0x0C, some 5, .exactly 0x00, .srl⟩,
  ⟨0x0C, some 5, .exactly 0x20, .sra⟩,
  ⟨0x0C, some 6, .exactly 0x00, .or⟩,
  ⟨0x0C, some 7, .exactly 0x00, .and⟩,
  ⟨0x0C, some 0, .exactly 0x01, .mul⟩,
  ⟨0x0C, some 1, .exactly 0x01, .mulh⟩]

/-- Opcodes 0x0C and 0x0E, by funct7 and funct3 (43_integer_register.md R200, R201). -/
def mnemRomIntRegB : MnemRom := [
  ⟨0x0C, some 2, .exactly 0x01, .mulhsu⟩,
  ⟨0x0C, some 3, .exactly 0x01, .mulhu⟩,
  ⟨0x0C, some 4, .exactly 0x01, .div⟩,
  ⟨0x0C, some 5, .exactly 0x01, .divu⟩,
  ⟨0x0C, some 6, .exactly 0x01, .rem⟩,
  ⟨0x0C, some 7, .exactly 0x01, .remu⟩,
  ⟨0x0E, some 0, .exactly 0x00, .addw⟩,
  ⟨0x0E, some 0, .exactly 0x20, .subw⟩,
  ⟨0x0E, some 1, .exactly 0x00, .sllw⟩,
  ⟨0x0E, some 5, .exactly 0x00, .srlw⟩,
  ⟨0x0E, some 5, .exactly 0x20, .sraw⟩,
  ⟨0x0E, some 0, .exactly 0x01, .mulw⟩]

/-- Opcodes 0x0C and 0x0E, by funct7 and funct3 (43_integer_register.md R200, R201). -/
def mnemRomIntRegC : MnemRom := [
  ⟨0x0E, some 4, .exactly 0x01, .divw⟩,
  ⟨0x0E, some 5, .exactly 0x01, .divuw⟩,
  ⟨0x0E, some 6, .exactly 0x01, .remw⟩,
  ⟨0x0E, some 7, .exactly 0x01, .remuw⟩]

/-- Opcode 0x0B, by funct3 and funct7 bits 6..2 (44_atomic.md R240). -/
def mnemRomAtomicA : MnemRom := [
  ⟨0x0B, some 2, .hi5 0b00010, .lrW⟩,
  ⟨0x0B, some 2, .hi5 0b00011, .scW⟩,
  ⟨0x0B, some 2, .hi5 0b00001, .amoswapW⟩,
  ⟨0x0B, some 2, .hi5 0b00000, .amoaddW⟩,
  ⟨0x0B, some 2, .hi5 0b00100, .amoxorW⟩,
  ⟨0x0B, some 2, .hi5 0b01100, .amoandW⟩,
  ⟨0x0B, some 2, .hi5 0b01000, .amoorW⟩,
  ⟨0x0B, some 2, .hi5 0b10000, .amominW⟩,
  ⟨0x0B, some 2, .hi5 0b10100, .amomaxW⟩,
  ⟨0x0B, some 2, .hi5 0b11000, .amominuW⟩,
  ⟨0x0B, some 2, .hi5 0b11100, .amomaxuW⟩,
  ⟨0x0B, some 3, .hi5 0b00010, .lrD⟩]

/-- Opcode 0x0B, by funct3 and funct7 bits 6..2 (44_atomic.md R240). -/
def mnemRomAtomicB : MnemRom := [
  ⟨0x0B, some 3, .hi5 0b00011, .scD⟩,
  ⟨0x0B, some 3, .hi5 0b00001, .amoswapD⟩,
  ⟨0x0B, some 3, .hi5 0b00000, .amoaddD⟩,
  ⟨0x0B, some 3, .hi5 0b00100, .amoxorD⟩,
  ⟨0x0B, some 3, .hi5 0b01100, .amoandD⟩,
  ⟨0x0B, some 3, .hi5 0b01000, .amoorD⟩,
  ⟨0x0B, some 3, .hi5 0b10000, .amominD⟩,
  ⟨0x0B, some 3, .hi5 0b10100, .amomaxD⟩,
  ⟨0x0B, some 3, .hi5 0b11000, .amominuD⟩,
  ⟨0x0B, some 3, .hi5 0b11100, .amomaxuD⟩]

/-- Opcode 0x18 by funct3; single-row opcodes 0x19 and 0x1B (45_control_transfer.md R270, R271). -/
def mnemRomControl : MnemRom := [
  ⟨0x18, some 0, .any, .beq⟩,
  ⟨0x18, some 1, .any, .bne⟩,
  ⟨0x18, some 4, .any, .blt⟩,
  ⟨0x18, some 5, .any, .bge⟩,
  ⟨0x18, some 6, .any, .bltu⟩,
  ⟨0x18, some 7, .any, .bgeu⟩,
  ⟨0x19, none, .any, .jalr⟩,
  ⟨0x1B, none, .any, .jal⟩]

/-- Opcodes 0x1C and 0x03, by funct3 (46_system_misc_mem.md R290, R291). -/
def mnemRomSystem : MnemRom := [
  ⟨0x1C, some 0, .any, .ecall⟩,
  ⟨0x1C, some 1, .any, .csrrw⟩,
  ⟨0x1C, some 2, .any, .csrrs⟩,
  ⟨0x1C, some 3, .any, .csrrc⟩,
  ⟨0x1C, some 5, .any, .csrrwi⟩,
  ⟨0x1C, some 6, .any, .csrrsi⟩,
  ⟨0x1C, some 7, .any, .csrrci⟩,
  ⟨0x03, some 0, .any, .fence⟩,
  ⟨0x03, some 1, .any, .fencei⟩]

/-- The default contents of `MNEM_ROM`: the 93 rows (30_encoding.md R99, D1). -/
def mnemRom : MnemRom :=
  mnemRomLoadStore ++ mnemRomIntImmA ++ mnemRomIntImmB ++ mnemRomIntRegA ++
  mnemRomIntRegB ++ mnemRomIntRegC ++ mnemRomAtomicA ++ mnemRomAtomicB ++
  mnemRomControl ++ mnemRomSystem

/-- The test a row makes of funct7; fields a row does not use are "don't care" (30_encoding.md R96). -/
def Funct7Sel.accepts (f7 : BitVec 7) : Funct7Sel → Bool
  | .any => true
  | .bit5 v => f7.getLsbD 5 == v
  | .hi5 v => f7.extractLsb' 2 5 == v
  | .exactly v => f7 == v

/-- The test a row makes of funct3. -/
def funct3Accepts (f3 : BitVec 3) : Option (BitVec 3) → Bool
  | none => true
  | some v => f3 == v

/-- The row is selected by these three fields. -/
def MnemRow.selects (row : MnemRow) (op : BitVec 5) (f3 : BitVec 3) (f7 : BitVec 7) : Bool :=
  op == row.opcode && funct3Accepts f3 row.funct3 && row.funct7.accepts f7

/-- `MNEM_ROM(opcode, funct3, funct7)`: a mnemonic (with its shape, `Mnemonic.shape`) or NONE (30_encoding.md R96). -/
def romLookup (rom : MnemRom) (op : BitVec 5) (f3 : BitVec 3) (f7 : BitVec 7) : Option Mnemonic :=
  (rom.find? fun row => row.selects op f3 f7).map MnemRow.mnemonic

/-! ## The decode operation -/

/-- Steps 8 and 9 for a selected row: the row's operand fields (40_decode_pipeline.md R128, R129). -/
def Mnemonic.instr (m : Mnemonic) (w : Word) : Instr :=
  match m with
  | .lb => .lb (rdOf w) (rs1Of w) (immIOf w)
  | .lh => .lh (rdOf w) (rs1Of w) (immIOf w)
  | .lw => .lw (rdOf w) (rs1Of w) (immIOf w)
  | .ld => .ld (rdOf w) (rs1Of w) (immIOf w)
  | .lbu => .lbu (rdOf w) (rs1Of w) (immIOf w)
  | .lhu => .lhu (rdOf w) (rs1Of w) (immIOf w)
  | .lwu => .lwu (rdOf w) (rs1Of w) (immIOf w)
  | .sb => .sb (rs1Of w) (rs2Of w) (immSOf w)
  | .sh => .sh (rs1Of w) (rs2Of w) (immSOf w)
  | .sw => .sw (rs1Of w) (rs2Of w) (immSOf w)
  | .sd => .sd (rs1Of w) (rs2Of w) (immSOf w)
  | .addi => .addi (rdOf w) (rs1Of w) (immIOf w)
  | .slti => .slti (rdOf w) (rs1Of w) (immIOf w)
  | .sltiu => .sltiu (rdOf w) (rs1Of w) (immIOf w)
  | .xori => .xori (rdOf w) (rs1Of w) (immIOf w)
  | .ori => .ori (rdOf w) (rs1Of w) (immIOf w)
  | .andi => .andi (rdOf w) (rs1Of w) (immIOf w)
  | .slli => .slli (rdOf w) (rs1Of w) (immShOf w)
  | .srli => .srli (rdOf w) (rs1Of w) (immShOf w)
  | .srai => .srai (rdOf w) (rs1Of w) (immShOf w)
  | .lui => .lui (rdOf w) (immUOf w)
  | .auipc => .auipc (rdOf w) (immUOf w)
  | .addiw => .addiw (rdOf w) (rs1Of w) (immIOf w)
  | .slliw => .slliw (rdOf w) (rs1Of w) (immShOf w)
  | .srliw => .srliw (rdOf w) (rs1Of w) (immShOf w)
  | .sraiw => .sraiw (rdOf w) (rs1Of w) (immShOf w)
  | .add => .add (rdOf w) (rs1Of w) (rs2Of w)
  | .sub => .sub (rdOf w) (rs1Of w) (rs2Of w)
  | .sll => .sll (rdOf w) (rs1Of w) (rs2Of w)
  | .slt => .slt (rdOf w) (rs1Of w) (rs2Of w)
  | .sltu => .sltu (rdOf w) (rs1Of w) (rs2Of w)
  | .xor => .xor (rdOf w) (rs1Of w) (rs2Of w)
  | .srl => .srl (rdOf w) (rs1Of w) (rs2Of w)
  | .sra => .sra (rdOf w) (rs1Of w) (rs2Of w)
  | .or => .or (rdOf w) (rs1Of w) (rs2Of w)
  | .and => .and (rdOf w) (rs1Of w) (rs2Of w)
  | .mul => .mul (rdOf w) (rs1Of w) (rs2Of w)
  | .mulh => .mulh (rdOf w) (rs1Of w) (rs2Of w)
  | .mulhsu => .mulhsu (rdOf w) (rs1Of w) (rs2Of w)
  | .mulhu => .mulhu (rdOf w) (rs1Of w) (rs2Of w)
  | .div => .div (rdOf w) (rs1Of w) (rs2Of w)
  | .divu => .divu (rdOf w) (rs1Of w) (rs2Of w)
  | .rem => .rem (rdOf w) (rs1Of w) (rs2Of w)
  | .remu => .remu (rdOf w) (rs1Of w) (rs2Of w)
  | .addw => .addw (rdOf w) (rs1Of w) (rs2Of w)
  | .subw => .subw (rdOf w) (rs1Of w) (rs2Of w)
  | .sllw => .sllw (rdOf w) (rs1Of w) (rs2Of w)
  | .srlw => .srlw (rdOf w) (rs1Of w) (rs2Of w)
  | .sraw => .sraw (rdOf w) (rs1Of w) (rs2Of w)
  | .mulw => .mulw (rdOf w) (rs1Of w) (rs2Of w)
  | .divw => .divw (rdOf w) (rs1Of w) (rs2Of w)
  | .divuw => .divuw (rdOf w) (rs1Of w) (rs2Of w)
  | .remw => .remw (rdOf w) (rs1Of w) (rs2Of w)
  | .remuw => .remuw (rdOf w) (rs1Of w) (rs2Of w)
  | .lrW => .lrW (rdOf w) (rs1Of w) (rs2Of w) (immAmoOf w)
  | .scW => .scW (rdOf w) (rs1Of w) (rs2Of w) (immAmoOf w)
  | .amoswapW => .amoswapW (rdOf w) (rs1Of w) (rs2Of w) (immAmoOf w)
  | .amoaddW => .amoaddW (rdOf w) (rs1Of w) (rs2Of w) (immAmoOf w)
  | .amoxorW => .amoxorW (rdOf w) (rs1Of w) (rs2Of w) (immAmoOf w)
  | .amoandW => .amoandW (rdOf w) (rs1Of w) (rs2Of w) (immAmoOf w)
  | .amoorW => .amoorW (rdOf w) (rs1Of w) (rs2Of w) (immAmoOf w)
  | .amominW => .amominW (rdOf w) (rs1Of w) (rs2Of w) (immAmoOf w)
  | .amomaxW => .amomaxW (rdOf w) (rs1Of w) (rs2Of w) (immAmoOf w)
  | .amominuW => .amominuW (rdOf w) (rs1Of w) (rs2Of w) (immAmoOf w)
  | .amomaxuW => .amomaxuW (rdOf w) (rs1Of w) (rs2Of w) (immAmoOf w)
  | .lrD => .lrD (rdOf w) (rs1Of w) (rs2Of w) (immAmoOf w)
  | .scD => .scD (rdOf w) (rs1Of w) (rs2Of w) (immAmoOf w)
  | .amoswapD => .amoswapD (rdOf w) (rs1Of w) (rs2Of w) (immAmoOf w)
  | .amoaddD => .amoaddD (rdOf w) (rs1Of w) (rs2Of w) (immAmoOf w)
  | .amoxorD => .amoxorD (rdOf w) (rs1Of w) (rs2Of w) (immAmoOf w)
  | .amoandD => .amoandD (rdOf w) (rs1Of w) (rs2Of w) (immAmoOf w)
  | .amoorD => .amoorD (rdOf w) (rs1Of w) (rs2Of w) (immAmoOf w)
  | .amominD => .amominD (rdOf w) (rs1Of w) (rs2Of w) (immAmoOf w)
  | .amomaxD => .amomaxD (rdOf w) (rs1Of w) (rs2Of w) (immAmoOf w)
  | .amominuD => .amominuD (rdOf w) (rs1Of w) (rs2Of w) (immAmoOf w)
  | .amomaxuD => .amomaxuD (rdOf w) (rs1Of w) (rs2Of w) (immAmoOf w)
  | .beq => .beq (rs1Of w) (rs2Of w) (immBOf w)
  | .bne => .bne (rs1Of w) (rs2Of w) (immBOf w)
  | .blt => .blt (rs1Of w) (rs2Of w) (immBOf w)
  | .bge => .bge (rs1Of w) (rs2Of w) (immBOf w)
  | .bltu => .bltu (rs1Of w) (rs2Of w) (immBOf w)
  | .bgeu => .bgeu (rs1Of w) (rs2Of w) (immBOf w)
  | .jalr => .jalr (rdOf w) (rs1Of w) (immIOf w)
  | .jal => .jal (rdOf w) (immJOf w)
  | .ecall => .ecall (rdOf w) (rs1Of w) (immIOf w)
  | .csrrw => .csrrw (rdOf w) (rs1Of w) (immIOf w)
  | .csrrs => .csrrs (rdOf w) (rs1Of w) (immIOf w)
  | .csrrc => .csrrc (rdOf w) (rs1Of w) (immIOf w)
  | .csrrwi => .csrrwi (rdOf w) (rs1Of w) (immIOf w)
  | .csrrsi => .csrrsi (rdOf w) (rs1Of w) (immIOf w)
  | .csrrci => .csrrci (rdOf w) (rs1Of w) (immIOf w)
  | .fence => .fence (rdOf w) (rs1Of w) (immIOf w)
  | .fencei => .fencei (rdOf w) (rs1Of w) (immIOf w)

/-- The three causes of Undefined. They are the spec's names and no output of the block (60_exceptions.md R353). -/
inductive UndefinedReason where
  | compressed | overlength | noRow
deriving DecidableEq, Repr

/-- What a decode finds (40_decode_pipeline.md R120): an instruction, or one of the two diagnostics. -/
inductive Decoded where
  | ok (i : Instr)
  | partialInput
  | undefinedWord (why : UndefinedReason)
deriving DecidableEq, Repr

/-- The decode operation over any `MNEM_ROM`, with its tests in the spec's order (40_decode_pipeline.md R121 to R132).
`inByte i` is the byte the caller supplies in cell `i`; it is consulted only for `i < inLen` (20_memory.md R54). -/
def decode (rom : MnemRom) (inLen : Nat) (inByte : Nat → Byte) : Decoded :=
  if inLen < 2 then .partialInput
  else if (inByte 0).extractLsb' 0 2 ≠ 0b11 then .undefinedWord .compressed
  else if (inByte 0).extractLsb' 2 3 = 0b111 then .undefinedWord .overlength
  else if inLen < 4 then .partialInput
  else
    let w := assemble (inByte 0) (inByte 1) (inByte 2) (inByte 3)
    match romLookup rom (opcodeOf w) (funct3Of w) (funct7Of w) with
    | none => .undefinedWord .noRow
    | some m => .ok (m.instr w)

/-- A list of bytes as the cells of an input buffer. -/
def bytesAt (bs : List Byte) (i : Nat) : Byte := bs.getD i 0

/-- The instruction the Decoder, with its default ROM, reads from an instruction whose bits are `w`, numbered as
spec/opcode_table.json numbers them; every bit at `nbits` and above is 0. -/
def decodeTableWord (nbits w : Nat) : Option Instr :=
  match decode mnemRom 4 (bytesAt (wordBytes (BitVec.ofNat 32 (w % 2 ^ nbits)))) with
  | .ok i => some i
  | .partialInput => none
  | .undefinedWord _ => none

/-! ## The encoder

No part of the block: "any encoding (assembly→binary) direction" is out of its scope (00_scope.md R5). It says which
word stands for an instruction, from the layouts of 30_encoding.md R86 to R93; bits that the row does not examine and
no operand holds are 0 (log entry 12). -/

/-- A register index as its 5-bit field. -/
def regBits (r : Reg) : BitVec 5 := BitVec.ofFin r

/-- R layout (30_encoding.md R86). -/
def encR (f7 : BitVec 7) (f3 : BitVec 3) (op : BitVec 5) (rd rs1 rs2 : Reg) : Word :=
  f7 ++ regBits rs2 ++ regBits rs1 ++ f3 ++ regBits rd ++ op ++ 0b11#2

/-- I layout (30_encoding.md R87). -/
def encI (f3 : BitVec 3) (op : BitVec 5) (rd rs1 : Reg) (imm : Imm) : Word :=
  imm.extractLsb' 0 12 ++ regBits rs1 ++ f3 ++ regBits rd ++ op ++ 0b11#2

/-- S layout (30_encoding.md R88). -/
def encS (f3 : BitVec 3) (op : BitVec 5) (rs1 rs2 : Reg) (imm : Imm) : Word :=
  imm.extractLsb' 5 7 ++ regBits rs2 ++ regBits rs1 ++ f3 ++ imm.extractLsb' 0 5 ++ op ++ 0b11#2

/-- B layout (30_encoding.md R89). -/
def encB (f3 : BitVec 3) (op : BitVec 5) (rs1 rs2 : Reg) (imm : Imm) : Word :=
  imm.extractLsb' 12 1 ++ imm.extractLsb' 5 6 ++ regBits rs2 ++ regBits rs1 ++ f3 ++ imm.extractLsb' 1 4 ++
    imm.extractLsb' 11 1 ++ op ++ 0b11#2

/-- U layout (30_encoding.md R90). -/
def encU (op : BitVec 5) (rd : Reg) (imm : Imm) : Word :=
  imm.extractLsb' 12 20 ++ regBits rd ++ op ++ 0b11#2

/-- J layout (30_encoding.md R91). -/
def encJ (op : BitVec 5) (rd : Reg) (imm : Imm) : Word :=
  imm.extractLsb' 20 1 ++ imm.extractLsb' 1 10 ++ imm.extractLsb' 11 1 ++ imm.extractLsb' 12 8 ++ regBits rd ++
    op ++ 0b11#2

/-- AMO layout (30_encoding.md R92). -/
def encAmo (f5 : BitVec 5) (f3 : BitVec 3) (op : BitVec 5) (rd rs1 rs2 : Reg) (imm : Imm) : Word :=
  f5 ++ imm.extractLsb' 0 2 ++ regBits rs2 ++ regBits rs1 ++ f3 ++ regBits rd ++ op ++ 0b11#2

/-- SH layout (30_encoding.md R93); `hi` is `word[31:26]`. -/
def encSh (hi : BitVec 6) (f3 : BitVec 3) (op : BitVec 5) (rd rs1 : Reg) (imm : Imm) : Word :=
  hi ++ imm.extractLsb' 0 6 ++ regBits rs1 ++ f3 ++ regBits rd ++ op ++ 0b11#2

/-- The word of a well-formed instruction, from its row's rule. -/
def encode : Instr → Word
  | .lb rd rs1 imm => encI 0 0x00 rd rs1 imm
  | .lh rd rs1 imm => encI 1 0x00 rd rs1 imm
  | .lw rd rs1 imm => encI 2 0x00 rd rs1 imm
  | .ld rd rs1 imm => encI 3 0x00 rd rs1 imm
  | .lbu rd rs1 imm => encI 4 0x00 rd rs1 imm
  | .lhu rd rs1 imm => encI 5 0x00 rd rs1 imm
  | .lwu rd rs1 imm => encI 6 0x00 rd rs1 imm
  | .sb rs1 rs2 imm => encS 0 0x08 rs1 rs2 imm
  | .sh rs1 rs2 imm => encS 1 0x08 rs1 rs2 imm
  | .sw rs1 rs2 imm => encS 2 0x08 rs1 rs2 imm
  | .sd rs1 rs2 imm => encS 3 0x08 rs1 rs2 imm
  | .addi rd rs1 imm => encI 0 0x04 rd rs1 imm
  | .slti rd rs1 imm => encI 2 0x04 rd rs1 imm
  | .sltiu rd rs1 imm => encI 3 0x04 rd rs1 imm
  | .xori rd rs1 imm => encI 4 0x04 rd rs1 imm
  | .ori rd rs1 imm => encI 6 0x04 rd rs1 imm
  | .andi rd rs1 imm => encI 7 0x04 rd rs1 imm
  | .slli rd rs1 imm => encSh 0 1 0x04 rd rs1 imm
  | .srli rd rs1 imm => encSh 0 5 0x04 rd rs1 imm
  | .srai rd rs1 imm => encSh 0b010000 5 0x04 rd rs1 imm
  | .lui rd imm => encU 0x0D rd imm
  | .auipc rd imm => encU 0x05 rd imm
  | .addiw rd rs1 imm => encI 0 0x06 rd rs1 imm
  | .slliw rd rs1 imm => encSh 0 1 0x06 rd rs1 imm
  | .srliw rd rs1 imm => encSh 0 5 0x06 rd rs1 imm
  | .sraiw rd rs1 imm => encSh 0b010000 5 0x06 rd rs1 imm
  | .add rd rs1 rs2 => encR 0x00 0 0x0C rd rs1 rs2
  | .sub rd rs1 rs2 => encR 0x20 0 0x0C rd rs1 rs2
  | .sll rd rs1 rs2 => encR 0x00 1 0x0C rd rs1 rs2
  | .slt rd rs1 rs2 => encR 0x00 2 0x0C rd rs1 rs2
  | .sltu rd rs1 rs2 => encR 0x00 3 0x0C rd rs1 rs2
  | .xor rd rs1 rs2 => encR 0x00 4 0x0C rd rs1 rs2
  | .srl rd rs1 rs2 => encR 0x00 5 0x0C rd rs1 rs2
  | .sra rd rs1 rs2 => encR 0x20 5 0x0C rd rs1 rs2
  | .or rd rs1 rs2 => encR 0x00 6 0x0C rd rs1 rs2
  | .and rd rs1 rs2 => encR 0x00 7 0x0C rd rs1 rs2
  | .mul rd rs1 rs2 => encR 0x01 0 0x0C rd rs1 rs2
  | .mulh rd rs1 rs2 => encR 0x01 1 0x0C rd rs1 rs2
  | .mulhsu rd rs1 rs2 => encR 0x01 2 0x0C rd rs1 rs2
  | .mulhu rd rs1 rs2 => encR 0x01 3 0x0C rd rs1 rs2
  | .div rd rs1 rs2 => encR 0x01 4 0x0C rd rs1 rs2
  | .divu rd rs1 rs2 => encR 0x01 5 0x0C rd rs1 rs2
  | .rem rd rs1 rs2 => encR 0x01 6 0x0C rd rs1 rs2
  | .remu rd rs1 rs2 => encR 0x01 7 0x0C rd rs1 rs2
  | .addw rd rs1 rs2 => encR 0x00 0 0x0E rd rs1 rs2
  | .subw rd rs1 rs2 => encR 0x20 0 0x0E rd rs1 rs2
  | .sllw rd rs1 rs2 => encR 0x00 1 0x0E rd rs1 rs2
  | .srlw rd rs1 rs2 => encR 0x00 5 0x0E rd rs1 rs2
  | .sraw rd rs1 rs2 => encR 0x20 5 0x0E rd rs1 rs2
  | .mulw rd rs1 rs2 => encR 0x01 0 0x0E rd rs1 rs2
  | .divw rd rs1 rs2 => encR 0x01 4 0x0E rd rs1 rs2
  | .divuw rd rs1 rs2 => encR 0x01 5 0x0E rd rs1 rs2
  | .remw rd rs1 rs2 => encR 0x01 6 0x0E rd rs1 rs2
  | .remuw rd rs1 rs2 => encR 0x01 7 0x0E rd rs1 rs2
  | .lrW rd rs1 rs2 imm => encAmo 0b00010 2 0x0B rd rs1 rs2 imm
  | .scW rd rs1 rs2 imm => encAmo 0b00011 2 0x0B rd rs1 rs2 imm
  | .amoswapW rd rs1 rs2 imm => encAmo 0b00001 2 0x0B rd rs1 rs2 imm
  | .amoaddW rd rs1 rs2 imm => encAmo 0b00000 2 0x0B rd rs1 rs2 imm
  | .amoxorW rd rs1 rs2 imm => encAmo 0b00100 2 0x0B rd rs1 rs2 imm
  | .amoandW rd rs1 rs2 imm => encAmo 0b01100 2 0x0B rd rs1 rs2 imm
  | .amoorW rd rs1 rs2 imm => encAmo 0b01000 2 0x0B rd rs1 rs2 imm
  | .amominW rd rs1 rs2 imm => encAmo 0b10000 2 0x0B rd rs1 rs2 imm
  | .amomaxW rd rs1 rs2 imm => encAmo 0b10100 2 0x0B rd rs1 rs2 imm
  | .amominuW rd rs1 rs2 imm => encAmo 0b11000 2 0x0B rd rs1 rs2 imm
  | .amomaxuW rd rs1 rs2 imm => encAmo 0b11100 2 0x0B rd rs1 rs2 imm
  | .lrD rd rs1 rs2 imm => encAmo 0b00010 3 0x0B rd rs1 rs2 imm
  | .scD rd rs1 rs2 imm => encAmo 0b00011 3 0x0B rd rs1 rs2 imm
  | .amoswapD rd rs1 rs2 imm => encAmo 0b00001 3 0x0B rd rs1 rs2 imm
  | .amoaddD rd rs1 rs2 imm => encAmo 0b00000 3 0x0B rd rs1 rs2 imm
  | .amoxorD rd rs1 rs2 imm => encAmo 0b00100 3 0x0B rd rs1 rs2 imm
  | .amoandD rd rs1 rs2 imm => encAmo 0b01100 3 0x0B rd rs1 rs2 imm
  | .amoorD rd rs1 rs2 imm => encAmo 0b01000 3 0x0B rd rs1 rs2 imm
  | .amominD rd rs1 rs2 imm => encAmo 0b10000 3 0x0B rd rs1 rs2 imm
  | .amomaxD rd rs1 rs2 imm => encAmo 0b10100 3 0x0B rd rs1 rs2 imm
  | .amominuD rd rs1 rs2 imm => encAmo 0b11000 3 0x0B rd rs1 rs2 imm
  | .amomaxuD rd rs1 rs2 imm => encAmo 0b11100 3 0x0B rd rs1 rs2 imm
  | .beq rs1 rs2 imm => encB 0 0x18 rs1 rs2 imm
  | .bne rs1 rs2 imm => encB 1 0x18 rs1 rs2 imm
  | .blt rs1 rs2 imm => encB 4 0x18 rs1 rs2 imm
  | .bge rs1 rs2 imm => encB 5 0x18 rs1 rs2 imm
  | .bltu rs1 rs2 imm => encB 6 0x18 rs1 rs2 imm
  | .bgeu rs1 rs2 imm => encB 7 0x18 rs1 rs2 imm
  | .jalr rd rs1 imm => encI 0 0x19 rd rs1 imm
  | .jal rd imm => encJ 0x1B rd imm
  | .ecall rd rs1 imm => encI 0 0x1C rd rs1 imm
  | .csrrw rd rs1 imm => encI 1 0x1C rd rs1 imm
  | .csrrs rd rs1 imm => encI 2 0x1C rd rs1 imm
  | .csrrc rd rs1 imm => encI 3 0x1C rd rs1 imm
  | .csrrwi rd rs1 imm => encI 5 0x1C rd rs1 imm
  | .csrrsi rd rs1 imm => encI 6 0x1C rd rs1 imm
  | .csrrci rd rs1 imm => encI 7 0x1C rd rs1 imm
  | .fence rd rs1 imm => encI 0 0x03 rd rs1 imm
  | .fencei rd rs1 imm => encI 1 0x03 rd rs1 imm

end Sys2Proof
end

