-- ==== Sys2Proof/Machine/NameRom.lean ====
section
/-! DEFINITION. The default contents of the enumeration-to-string ROM `NAME_ROM` (48_formatter.md R314). -/

namespace Sys2Proof.Machine

/-- A string as its ASCII characters (48_formatter.md R324). -/
def ascii (s : String) : List Byte := s.toList.map fun c => BitVec.ofNat 8 c.toNat

/-- One entry of the ROM. -/
def nameRow (code : MnemCode) (token : String) : NameRow := ⟨code, ascii token⟩

/-- Codes 1 to 11 of 48_formatter.md R314. -/
def nameRomLoadStore : NameRom := [
  nameRow 1 "lb", nameRow 2 "lh", nameRow 3 "lw",
  nameRow 4 "ld", nameRow 5 "lbu", nameRow 6 "lhu",
  nameRow 7 "lwu", nameRow 8 "sb", nameRow 9 "sh",
  nameRow 10 "sw", nameRow 11 "sd"]

/-- Codes 12 to 23 of 48_formatter.md R314. -/
def nameRomIntImmA : NameRom := [
  nameRow 12 "addi", nameRow 13 "slti", nameRow 14 "sltiu",
  nameRow 15 "xori", nameRow 16 "ori", nameRow 17 "andi",
  nameRow 18 "slli", nameRow 19 "srli", nameRow 20 "srai",
  nameRow 21 "lui", nameRow 22 "auipc", nameRow 23 "addiw"]

/-- Codes 24 to 26 of 48_formatter.md R314. -/
def nameRomIntImmB : NameRom := [
  nameRow 24 "slliw", nameRow 25 "srliw", nameRow 26 "sraiw"]

/-- Codes 27 to 38 of 48_formatter.md R314. -/
def nameRomIntRegA : NameRom := [
  nameRow 27 "add", nameRow 28 "sub", nameRow 29 "sll",
  nameRow 30 "slt", nameRow 31 "sltu", nameRow 32 "xor",
  nameRow 33 "srl", nameRow 34 "sra", nameRow 35 "or",
  nameRow 36 "and", nameRow 37 "mul", nameRow 38 "mulh"]

/-- Codes 39 to 50 of 48_formatter.md R314. -/
def nameRomIntRegB : NameRom := [
  nameRow 39 "mulhsu", nameRow 40 "mulhu", nameRow 41 "div",
  nameRow 42 "divu", nameRow 43 "rem", nameRow 44 "remu",
  nameRow 45 "addw", nameRow 46 "subw", nameRow 47 "sllw",
  nameRow 48 "srlw", nameRow 49 "sraw", nameRow 50 "mulw"]

/-- Codes 51 to 54 of 48_formatter.md R314. -/
def nameRomIntRegC : NameRom := [
  nameRow 51 "divw", nameRow 52 "divuw", nameRow 53 "remw",
  nameRow 54 "remuw"]

/-- Codes 55 to 66 of 48_formatter.md R314. -/
def nameRomAtomicA : NameRom := [
  nameRow 55 "lr.w", nameRow 56 "sc.w", nameRow 57 "amoswap.w",
  nameRow 58 "amoadd.w", nameRow 59 "amoxor.w", nameRow 60 "amoand.w",
  nameRow 61 "amoor.w", nameRow 62 "amomin.w", nameRow 63 "amomax.w",
  nameRow 64 "amominu.w", nameRow 65 "amomaxu.w", nameRow 66 "lr.d"]

/-- Codes 67 to 76 of 48_formatter.md R314. -/
def nameRomAtomicB : NameRom := [
  nameRow 67 "sc.d", nameRow 68 "amoswap.d", nameRow 69 "amoadd.d",
  nameRow 70 "amoxor.d", nameRow 71 "amoand.d", nameRow 72 "amoor.d",
  nameRow 73 "amomin.d", nameRow 74 "amomax.d", nameRow 75 "amominu.d",
  nameRow 76 "amomaxu.d"]

/-- Codes 77 to 84 of 48_formatter.md R314. -/
def nameRomControl : NameRom := [
  nameRow 77 "beq", nameRow 78 "bne", nameRow 79 "blt",
  nameRow 80 "bge", nameRow 81 "bltu", nameRow 82 "bgeu",
  nameRow 83 "jalr", nameRow 84 "jal"]

/-- Codes 85 to 93 of 48_formatter.md R314. -/
def nameRomSystem : NameRom := [
  nameRow 85 "ecall", nameRow 86 "csrrw", nameRow 87 "csrrs",
  nameRow 88 "csrrc", nameRow 89 "csrrwi", nameRow 90 "csrrsi",
  nameRow 91 "csrrci", nameRow 92 "fence", nameRow 93 "fencei"]

/-- The default `NAME_ROM`: codes 1 to 93; code 0 and codes 94 to 255 have no entry (48_formatter.md R314, D2, D3). -/
def nameRom : NameRom :=
  nameRomLoadStore ++ nameRomIntImmA ++ nameRomIntImmB ++ nameRomIntRegA ++
  nameRomIntRegB ++ nameRomIntRegC ++ nameRomAtomicA ++ nameRomAtomicB ++
  nameRomControl ++ nameRomSystem

/-- The token of a code, if it has one (48_formatter.md R312). -/
def tokenOf (rom : NameRom) (code : MnemCode) : Option (List Byte) :=
  (rom.find? fun row => row.code == code).map NameRow.token

end Sys2Proof.Machine
end

