-- ==== Sys2Proof/Machine/State.lean ====
section
/-! DEFINITION. The state: the two ROMs, the block's ports, the caller's two buffers and the caller's requests
(10_state.md, 20_memory.md R50, 70_reset_and_hazards.md R380 to R388). -/

namespace Sys2Proof.Machine

/-- One address space of the caller (20_memory.md R50): the cells it holds, addresses strictly rising. A cell that
is not listed holds no value (log entry 3). -/
abbrev Memory := List Host.Cell

/-- The canonical form: addresses strictly rising. (An unlisted cell holds no value, so no entry equals it.) -/
def Memory.wf : Memory → Bool
  | [] => true
  | [_] => true
  | c :: d :: m => decide (c.1 < d.1) && Memory.wf (d :: m)

/-- What the Decoder answers to a request (10_state.md R30, R34, 40_decode_pipeline.md R120): OK with the byte count
and the record, Partial, or Undefined. The two diagnostics carry nothing else (60_exceptions.md R353, D6). -/
inductive Answer where
  | ok (consumed : Nat) (record : Record)
  | partialInput
  | undefined
deriving DecidableEq, Repr

/-- A decode request (10_state.md R29). `base` is where the caller's buffer starts in its input storage, so
`InByte(i)` is cell `base + i`; `inLen` is the number of bytes it says it supplies. `changes` lists the values that
cells of the buffer (by index) take while the decode is in progress, against 70_reset_and_hazards.md R386, oldest
first; `overlap` lists the cells that a format in progress elsewhere also writes, against R387. A caller that keeps
its duties leaves both empty. -/
structure DecodeReq where
  base : Nat
  inLen : Nat
  changes : List Host.Cell := []
  overlap : List Nat := []
deriving DecidableEq, Repr

/-- Where a format's record comes from: the caller's own (10_state.md R35, 48_formatter.md R328), or the record on
the Decoder's output, since "a format may take the record of the decode just completed"
(70_reset_and_hazards.md R385). -/
inductive RecordSource where
  | given (r : Record)
  | decoded
deriving DecidableEq, Repr

/-- A format request (10_state.md R35). `OutChar(i)` is cell `base + i` of the caller's output storage and `cap` its
capacity; `overlap` lists the cells of the buffer (by index) that the caller has also given to another request in
progress or to the record, against 70_reset_and_hazards.md R387. -/
structure FormatReq where
  source : RecordSource
  base : Nat
  cap : Nat
  overlap : List Nat := []
deriving DecidableEq, Repr

/-- What the caller can ask of the block (70_reset_and_hazards.md R384). -/
inductive Request where
  | decode (q : DecodeReq)
  | format (q : FormatReq)
deriving DecidableEq, Repr

/-- Why a step could stop with a fault: never. The block has no trap, and its diagnostics are ordinary outputs
(60_exceptions.md R357, 93_implementation_defined.md), so there is no constructor (log entry 11). -/
inductive Fault
deriving DecidableEq, Repr

/-- Why a step could be refused. -/
inductive Refusal where
  /-- Raised only by an arm of `exec` for an instruction that has no meaning yet; safe. No arm raises it. -/
  | notModelled (mnemonic : String)
deriving DecidableEq, Repr

/-- The state of the block and of the caller's side of its ports. -/
structure State where
  /-- `MNEM_ROM` (10_state.md R26). -/
  mnemRom : MnemRom
  /-- `NAME_ROM` (10_state.md R27). -/
  nameRom : NameRom
  /-- The caller's input storage, read by the Decoder (20_memory.md R50). -/
  inMem : Memory
  /-- The caller's output storage, written by the Formatter (20_memory.md R50). -/
  outMem : Memory
  /-- The caller's requests not yet served, oldest first (log entry 1). -/
  pending : List Request
  /-- The Decoder's outputs: the answer to the last decode, or none before the first (10_state.md R30, R382). -/
  decoded : Option Answer
  /-- The model's own field: how many requests have been served, the number the free values of the next request
  are drawn under (log entry 9). -/
  draws : Nat
deriving DecidableEq, Repr

/-- After reset both ROMs hold their fixed contents (70_reset_and_hazards.md R381); nothing else has a reset value
(R380, R382): no request is pending, no answer is on the Decoder's outputs, and no cell of the caller's storage is
listed (log entries 1, 3, 8 and 9). -/
def State.reset : State where
  mnemRom := Sys2Proof.mnemRom
  nameRom := Sys2Proof.Machine.nameRom
  inMem := []
  outMem := []
  pending := []
  decoded := none
  draws := 0

end Sys2Proof.Machine
end

