-- ==== Sys2Proof/Machine/Ops.lean ====
section
/-! DEFINITION. The shared operations: the caller's cells, the bytes a decode reads, and the Decoder's answer.
The block takes no exception and returns from none (60_exceptions.md R357, R358); what stands in their place is
`State.diagnose`, the answer of a decode that finds no instruction. -/

namespace Sys2Proof.Machine

/-! ## Cells -/

/-- What an unlisted cell reads as: no value (log entry 3). -/
def Memory.unlisted : Option Byte := none

/-- The value of a cell, if it holds one. -/
def Memory.read : Memory → Nat → Option Byte
  | [], _ => Memory.unlisted
  | (k, v) :: m, a => if k = a then some v else Memory.read m a

/-- Store one byte, keeping addresses rising. -/
def Memory.write : Memory → Nat → Byte → Memory
  | [], a, b => [(a, b)]
  | (k, v) :: m, a, b =>
    if a < k then (a, b) :: (k, v) :: m
    else if a = k then (a, b) :: m
    else (k, v) :: Memory.write m a b

/-- Store bytes in consecutive cells from `a`. -/
def Memory.writeRange (m : Memory) (a : Nat) : List Byte → Memory
  | [] => m
  | b :: bs => Memory.writeRange (m.write a b) (a + 1) bs

/-- Store a list of (cell, byte) pairs in turn. -/
def Memory.writeCells (m : Memory) : List Host.Cell → Memory
  | [] => m
  | c :: cs => Memory.writeCells (m.write c.1 c.2) cs

/-! ## The bytes a decode reads -/

/-- What the caller's storage holds at `InByte(i)`: the cell's byte, or any value where the caller promised a byte
and holds none (93_implementation_defined.md section 2). -/
def suppliedByte (s : State) (q : DecodeReq) (i : Nat) : Byte :=
  match s.inMem.read (q.base + i) with
  | some b => b
  | none => Config.freeByte s.draws .read i

/-- The values cell `i` takes while the decode is in progress. -/
def DecodeReq.newBytes (q : DecodeReq) (i : Nat) : List Byte :=
  (q.changes.filter fun c => c.1 == i).map Prod.snd

/-- `InByte(i)` (00_scope.md R12). An overlapped cell is any value (20_memory.md R62); a cell that changes during the
decode is a free draw among its old and new values (70_reset_and_hazards.md R386); any other is what the caller
supplied. One draw is made for each cell of a request. -/
def inByte (s : State) (q : DecodeReq) (i : Nat) : Byte :=
  if i ∈ q.overlap then Config.freeByte s.draws .read i
  else
    match q.newBytes i with
    | [] => suppliedByte s q i
    | news => (suppliedByte s q i :: news).getD (Config.freeChoice s.draws i % (news.length + 1)) 0

/-- The decode of a request (40_decode_pipeline.md R131) with the state's ROM. -/
def fetch (s : State) (q : DecodeReq) : Decoded :=
  decode s.mnemRom q.inLen (inByte s q)

/-! ## Serving a request -/

/-- Any value in the cells that two requests share, once both are done (20_memory.md R62). -/
def freeCells (draw base len : Nat) (overlap : List Nat) : List Host.Cell :=
  (overlap.filter fun i => decide (i < len)).map fun i => (base + i, Config.freeByte draw .left i)

/-- The caller's own writes to the buffer during the decode. -/
def DecodeReq.landed (q : DecodeReq) : List Host.Cell :=
  (q.changes.filter fun c => decide (c.1 < q.inLen)).map fun c => (q.base + c.1, c.2)

/-- A request is taken from the queue; the free values of the next are new ones. -/
def State.served (s : State) (rest : List Request) : State :=
  { s with pending := rest, draws := s.draws + 1 }

/-- What serving a decode request does beside the Decoder's answer: the Decoder itself only reads (20_memory.md R51),
so all that happens to the input storage is what the caller did to it, against R386 and R387. -/
def State.afterDecode (s : State) (q : DecodeReq) (rest : List Request) : State :=
  { s.served rest with
    inMem := (s.inMem.writeCells q.landed).writeCells (freeCells s.draws q.base q.inLen q.overlap) }

/-- The Decoder's outputs become the answer to the request (10_state.md R30). -/
def State.answer (s : State) (a : Answer) : State := { s with decoded := some a }

/-- Success: the record and byte count 4 (40_decode_pipeline.md R130). -/
def State.deliver (s : State) (r : Record) : State := s.answer (.ok 4 r)

/-- A decode that finds no instruction answers with its diagnostic and nothing else: no state is saved, no vector is
entered (60_exceptions.md R350 to R354, R357). -/
def State.diagnosePartial (s : State) : State := s.answer .partialInput

/-- Undefined; which of the three causes applied is no output (60_exceptions.md R353). -/
def State.diagnoseUndefined (s : State) (_why : UndefinedReason) : State := s.answer .undefined

/-- The record a format takes (10_state.md R35, 70_reset_and_hazards.md R385). If no decode has answered OK, the
record on the Decoder's output carries no meaning: any value (10_state.md R30, 93_implementation_defined.md
section 2). -/
def State.recordFor (s : State) : RecordSource → Record
  | .given r => r
  | .decoded =>
    match s.decoded with
    | some (.ok _ r) => r
    | some .partialInput => Config.freeRecord s.draws
    | some .undefined => Config.freeRecord s.draws
    | none => Config.freeRecord s.draws

/-- A word's four bytes at the start of the caller's input storage, with a request to decode them before any other. -/
def State.placeWord (s : State) (w : Word) : State :=
  { s with
    inMem := s.inMem.writeRange 0 (wordBytes w)
    pending := .decode { base := 0, inLen := 4 } :: s.pending }

end Sys2Proof.Machine
end

