-- ==== Sys2Proof/Machine/Operands.lean ====
section
/-! DEFINITION. The records of the eight encoding shapes (30_encoding.md R84 to R93), and the operand field
multiplexer driven by the shape's columns (40_decode_pipeline.md R131). -/

namespace Sys2Proof.Machine

/-- R: rd, rs1, rs2 present, `imm = 0` (30_encoding.md R86). -/
def recR (m : Mnemonic) (rd rs1 rs2 : Reg) : Record :=
  { mnemonic := m.code, rd := some rd, rs1 := some rs1, rs2 := some rs2, rs3 := none, imm := 0 }

/-- I: rd, rs1 present (30_encoding.md R87). -/
def recI (m : Mnemonic) (rd rs1 : Reg) (imm : Imm) : Record :=
  { mnemonic := m.code, rd := some rd, rs1 := some rs1, rs2 := none, rs3 := none, imm := imm }

/-- S: rs1, rs2 present (30_encoding.md R88). -/
def recS (m : Mnemonic) (rs1 rs2 : Reg) (imm : Imm) : Record :=
  { mnemonic := m.code, rd := none, rs1 := some rs1, rs2 := some rs2, rs3 := none, imm := imm }

/-- B: rs1, rs2 present (30_encoding.md R89). -/
def recB (m : Mnemonic) (rs1 rs2 : Reg) (imm : Imm) : Record :=
  { mnemonic := m.code, rd := none, rs1 := some rs1, rs2 := some rs2, rs3 := none, imm := imm }

/-- U: rd present (30_encoding.md R90). -/
def recU (m : Mnemonic) (rd : Reg) (imm : Imm) : Record :=
  { mnemonic := m.code, rd := some rd, rs1 := none, rs2 := none, rs3 := none, imm := imm }

/-- J: rd present (30_encoding.md R91). -/
def recJ (m : Mnemonic) (rd : Reg) (imm : Imm) : Record :=
  { mnemonic := m.code, rd := some rd, rs1 := none, rs2 := none, rs3 := none, imm := imm }

/-- AMO: rd, rs1, rs2 present, LR included (30_encoding.md R92, 44_atomic.md R241). -/
def recAmo (m : Mnemonic) (rd rs1 rs2 : Reg) (imm : Imm) : Record :=
  { mnemonic := m.code, rd := some rd, rs1 := some rs1, rs2 := some rs2, rs3 := none, imm := imm }

/-- SH: rd, rs1 present (30_encoding.md R93). -/
def recSh (m : Mnemonic) (rd rs1 : Reg) (imm : Imm) : Record :=
  { mnemonic := m.code, rd := some rd, rs1 := some rs1, rs2 := none, rs3 := none, imm := imm }

/-- A register field: the index if the shape includes it, else absent (40_decode_pipeline.md R128). -/
def fieldIf (present : Bool) (n : Reg) : Option Reg := if present then some n else none

/-- The operand field multiplexer as 40_decode_pipeline.md R131 writes it: the record of a selected row from the
columns of its shape. -/
def operandMux (m : Mnemonic) (w : Word) : Record :=
  { mnemonic := m.code
    rd := fieldIf m.shape.hasRd (rdOf w)
    rs1 := fieldIf m.shape.hasRs1 (rs1Of w)
    rs2 := fieldIf m.shape.hasRs2 (rs2Of w)
    rs3 := none
    imm := m.shape.immOf w }

end Sys2Proof.Machine
end

