-- ==== Sys2Proof/Machine/Atomic.lean ====
section
/-! DEFINITION. Atomic-memory rows (44_atomic.md).
A meaning delivers the row's record; no atomic operation is performed and no reservation is held (R264). -/

namespace Sys2Proof.Machine

/-- LR.W, code 55 (44_atomic.md R242). -/
def execLrW (rd rs1 rs2 : Reg) (imm : Imm) (s : State) : Host.Outcome State Fault Refusal :=
  .next (s.deliver (recAmo .lrW rd rs1 rs2 imm))

/-- SC.W, code 56 (44_atomic.md R243). -/
def execScW (rd rs1 rs2 : Reg) (imm : Imm) (s : State) : Host.Outcome State Fault Refusal :=
  .next (s.deliver (recAmo .scW rd rs1 rs2 imm))

/-- AMOSWAP.W, code 57 (44_atomic.md R244). -/
def execAmoswapW (rd rs1 rs2 : Reg) (imm : Imm) (s : State) : Host.Outcome State Fault Refusal :=
  .next (s.deliver (recAmo .amoswapW rd rs1 rs2 imm))

/-- AMOADD.W, code 58 (44_atomic.md R245). -/
def execAmoaddW (rd rs1 rs2 : Reg) (imm : Imm) (s : State) : Host.Outcome State Fault Refusal :=
  .next (s.deliver (recAmo .amoaddW rd rs1 rs2 imm))

/-- AMOXOR.W, code 59 (44_atomic.md R246). -/
def execAmoxorW (rd rs1 rs2 : Reg) (imm : Imm) (s : State) : Host.Outcome State Fault Refusal :=
  .next (s.deliver (recAmo .amoxorW rd rs1 rs2 imm))

/-- AMOAND.W, code 60 (44_atomic.md R247). -/
def execAmoandW (rd rs1 rs2 : Reg) (imm : Imm) (s : State) : Host.Outcome State Fault Refusal :=
  .next (s.deliver (recAmo .amoandW rd rs1 rs2 imm))

/-- AMOOR.W, code 61 (44_atomic.md R248). -/
def execAmoorW (rd rs1 rs2 : Reg) (imm : Imm) (s : State) : Host.Outcome State Fault Refusal :=
  .next (s.deliver (recAmo .amoorW rd rs1 rs2 imm))

/-- AMOMIN.W, code 62 (44_atomic.md R249). -/
def execAmominW (rd rs1 rs2 : Reg) (imm : Imm) (s : State) : Host.Outcome State Fault Refusal :=
  .next (s.deliver (recAmo .amominW rd rs1 rs2 imm))

/-- AMOMAX.W, code 63 (44_atomic.md R250). -/
def execAmomaxW (rd rs1 rs2 : Reg) (imm : Imm) (s : State) : Host.Outcome State Fault Refusal :=
  .next (s.deliver (recAmo .amomaxW rd rs1 rs2 imm))

/-- AMOMINU.W, code 64 (44_atomic.md R251). -/
def execAmominuW (rd rs1 rs2 : Reg) (imm : Imm) (s : State) : Host.Outcome State Fault Refusal :=
  .next (s.deliver (recAmo .amominuW rd rs1 rs2 imm))

/-- AMOMAXU.W, code 65 (44_atomic.md R252). -/
def execAmomaxuW (rd rs1 rs2 : Reg) (imm : Imm) (s : State) : Host.Outcome State Fault Refusal :=
  .next (s.deliver (recAmo .amomaxuW rd rs1 rs2 imm))

/-- LR.D, code 66 (44_atomic.md R253). -/
def execLrD (rd rs1 rs2 : Reg) (imm : Imm) (s : State) : Host.Outcome State Fault Refusal :=
  .next (s.deliver (recAmo .lrD rd rs1 rs2 imm))

/-- SC.D, code 67 (44_atomic.md R254). -/
def execScD (rd rs1 rs2 : Reg) (imm : Imm) (s : State) : Host.Outcome State Fault Refusal :=
  .next (s.deliver (recAmo .scD rd rs1 rs2 imm))

/-- AMOSWAP.D, code 68 (44_atomic.md R255). -/
def execAmoswapD (rd rs1 rs2 : Reg) (imm : Imm) (s : State) : Host.Outcome State Fault Refusal :=
  .next (s.deliver (recAmo .amoswapD rd rs1 rs2 imm))

/-- AMOADD.D, code 69 (44_atomic.md R256). -/
def execAmoaddD (rd rs1 rs2 : Reg) (imm : Imm) (s : State) : Host.Outcome State Fault Refusal :=
  .next (s.deliver (recAmo .amoaddD rd rs1 rs2 imm))

/-- AMOXOR.D, code 70 (44_atomic.md R257). -/
def execAmoxorD (rd rs1 rs2 : Reg) (imm : Imm) (s : State) : Host.Outcome State Fault Refusal :=
  .next (s.deliver (recAmo .amoxorD rd rs1 rs2 imm))

/-- AMOAND.D, code 71 (44_atomic.md R258). -/
def execAmoandD (rd rs1 rs2 : Reg) (imm : Imm) (s : State) : Host.Outcome State Fault Refusal :=
  .next (s.deliver (recAmo .amoandD rd rs1 rs2 imm))

/-- AMOOR.D, code 72 (44_atomic.md R259). -/
def execAmoorD (rd rs1 rs2 : Reg) (imm : Imm) (s : State) : Host.Outcome State Fault Refusal :=
  .next (s.deliver (recAmo .amoorD rd rs1 rs2 imm))

/-- AMOMIN.D, code 73 (44_atomic.md R260). -/
def execAmominD (rd rs1 rs2 : Reg) (imm : Imm) (s : State) : Host.Outcome State Fault Refusal :=
  .next (s.deliver (recAmo .amominD rd rs1 rs2 imm))

/-- AMOMAX.D, code 74 (44_atomic.md R261). -/
def execAmomaxD (rd rs1 rs2 : Reg) (imm : Imm) (s : State) : Host.Outcome State Fault Refusal :=
  .next (s.deliver (recAmo .amomaxD rd rs1 rs2 imm))

/-- AMOMINU.D, code 75 (44_atomic.md R262). -/
def execAmominuD (rd rs1 rs2 : Reg) (imm : Imm) (s : State) : Host.Outcome State Fault Refusal :=
  .next (s.deliver (recAmo .amominuD rd rs1 rs2 imm))

/-- AMOMAXU.D, code 76 (44_atomic.md R263). -/
def execAmomaxuD (rd rs1 rs2 : Reg) (imm : Imm) (s : State) : Host.Outcome State Fault Refusal :=
  .next (s.deliver (recAmo .amomaxuD rd rs1 rs2 imm))

end Sys2Proof.Machine
end

