-- ==== Sys2Proof/Machine/Control.lean ====
section
/-! DEFINITION. Branches and jumps (45_control_transfer.md).
A meaning delivers the row's record; no target is computed and no control is transferred (R272). -/

namespace Sys2Proof.Machine

/-- BEQ, code 77 (45_control_transfer.md R273). -/
def execBeq (rs1 rs2 : Reg) (imm : Imm) (s : State) : Host.Outcome State Fault Refusal :=
  .next (s.deliver (recB .beq rs1 rs2 imm))

/-- BNE, code 78 (45_control_transfer.md R274). -/
def execBne (rs1 rs2 : Reg) (imm : Imm) (s : State) : Host.Outcome State Fault Refusal :=
  .next (s.deliver (recB .bne rs1 rs2 imm))

/-- BLT, code 79 (45_control_transfer.md R275). -/
def execBlt (rs1 rs2 : Reg) (imm : Imm) (s : State) : Host.Outcome State Fault Refusal :=
  .next (s.deliver (recB .blt rs1 rs2 imm))

/-- BGE, code 80 (45_control_transfer.md R276). -/
def execBge (rs1 rs2 : Reg) (imm : Imm) (s : State) : Host.Outcome State Fault Refusal :=
  .next (s.deliver (recB .bge rs1 rs2 imm))

/-- BLTU, code 81 (45_control_transfer.md R277). -/
def execBltu (rs1 rs2 : Reg) (imm : Imm) (s : State) : Host.Outcome State Fault Refusal :=
  .next (s.deliver (recB .bltu rs1 rs2 imm))

/-- BGEU, code 82 (45_control_transfer.md R278). -/
def execBgeu (rs1 rs2 : Reg) (imm : Imm) (s : State) : Host.Outcome State Fault Refusal :=
  .next (s.deliver (recB .bgeu rs1 rs2 imm))

/-- JALR, code 83 (45_control_transfer.md R279). -/
def execJalr (rd rs1 : Reg) (imm : Imm) (s : State) : Host.Outcome State Fault Refusal :=
  .next (s.deliver (recI .jalr rd rs1 imm))

/-- JAL, code 84 (45_control_transfer.md R280). -/
def execJal (rd : Reg) (imm : Imm) (s : State) : Host.Outcome State Fault Refusal :=
  .next (s.deliver (recJ .jal rd imm))

end Sys2Proof.Machine
end

