-- ==== Sys2Proof/Machine/IntImm.lean ====
section
/-! DEFINITION. Integer-immediate, shift-immediate and upper-immediate rows (42_integer_immediate.md).
A meaning delivers the row's record and computes nothing with operand values (R188). -/

namespace Sys2Proof.Machine

/-- ADDI, code 12 (42_integer_immediate.md R173). -/
def execAddi (rd rs1 : Reg) (imm : Imm) (s : State) : Host.Outcome State Fault Refusal :=
  .next (s.deliver (recI .addi rd rs1 imm))

/-- SLTI, code 13 (42_integer_immediate.md R174). -/
def execSlti (rd rs1 : Reg) (imm : Imm) (s : State) : Host.Outcome State Fault Refusal :=
  .next (s.deliver (recI .slti rd rs1 imm))

/-- SLTIU, code 14 (42_integer_immediate.md R175). -/
def execSltiu (rd rs1 : Reg) (imm : Imm) (s : State) : Host.Outcome State Fault Refusal :=
  .next (s.deliver (recI .sltiu rd rs1 imm))

/-- XORI, code 15 (42_integer_immediate.md R176). -/
def execXori (rd rs1 : Reg) (imm : Imm) (s : State) : Host.Outcome State Fault Refusal :=
  .next (s.deliver (recI .xori rd rs1 imm))

/-- ORI, code 16 (42_integer_immediate.md R177). -/
def execOri (rd rs1 : Reg) (imm : Imm) (s : State) : Host.Outcome State Fault Refusal :=
  .next (s.deliver (recI .ori rd rs1 imm))

/-- ANDI, code 17 (42_integer_immediate.md R178). -/
def execAndi (rd rs1 : Reg) (imm : Imm) (s : State) : Host.Outcome State Fault Refusal :=
  .next (s.deliver (recI .andi rd rs1 imm))

/-- SLLI, code 18 (42_integer_immediate.md R179). -/
def execSlli (rd rs1 : Reg) (imm : Imm) (s : State) : Host.Outcome State Fault Refusal :=
  .next (s.deliver (recSh .slli rd rs1 imm))

/-- SRLI, code 19 (42_integer_immediate.md R180). -/
def execSrli (rd rs1 : Reg) (imm : Imm) (s : State) : Host.Outcome State Fault Refusal :=
  .next (s.deliver (recSh .srli rd rs1 imm))

/-- SRAI, code 20 (42_integer_immediate.md R181). -/
def execSrai (rd rs1 : Reg) (imm : Imm) (s : State) : Host.Outcome State Fault Refusal :=
  .next (s.deliver (recSh .srai rd rs1 imm))

/-- LUI, code 21 (42_integer_immediate.md R182). -/
def execLui (rd : Reg) (imm : Imm) (s : State) : Host.Outcome State Fault Refusal :=
  .next (s.deliver (recU .lui rd imm))

/-- AUIPC, code 22 (42_integer_immediate.md R183). -/
def execAuipc (rd : Reg) (imm : Imm) (s : State) : Host.Outcome State Fault Refusal :=
  .next (s.deliver (recU .auipc rd imm))

/-- ADDIW, code 23 (42_integer_immediate.md R184). -/
def execAddiw (rd rs1 : Reg) (imm : Imm) (s : State) : Host.Outcome State Fault Refusal :=
  .next (s.deliver (recI .addiw rd rs1 imm))

/-- SLLIW, code 24 (42_integer_immediate.md R185). -/
def execSlliw (rd rs1 : Reg) (imm : Imm) (s : State) : Host.Outcome State Fault Refusal :=
  .next (s.deliver (recSh .slliw rd rs1 imm))

/-- SRLIW, code 25 (42_integer_immediate.md R186). -/
def execSrliw (rd rs1 : Reg) (imm : Imm) (s : State) : Host.Outcome State Fault Refusal :=
  .next (s.deliver (recSh .srliw rd rs1 imm))

/-- SRAIW, code 26 (42_integer_immediate.md R187). -/
def execSraiw (rd rs1 : Reg) (imm : Imm) (s : State) : Host.Outcome State Fault Refusal :=
  .next (s.deliver (recSh .sraiw rd rs1 imm))

end Sys2Proof.Machine
end

