-- ==== Sys2Proof/Machine/IntReg.lean ====
section
/-! DEFINITION. Register-register, multiply-divide and 32-bit-narrow rows (43_integer_register.md).
A meaning delivers the row's record and computes nothing with operand values (R230). -/

namespace Sys2Proof.Machine

/-- ADD, code 27 (43_integer_register.md R202). -/
def execAdd (rd rs1 rs2 : Reg) (s : State) : Host.Outcome State Fault Refusal :=
  .next (s.deliver (recR .add rd rs1 rs2))

/-- SUB, code 28 (43_integer_register.md R203). -/
def execSub (rd rs1 rs2 : Reg) (s : State) : Host.Outcome State Fault Refusal :=
  .next (s.deliver (recR .sub rd rs1 rs2))

/-- SLL, code 29 (43_integer_register.md R204). -/
def execSll (rd rs1 rs2 : Reg) (s : State) : Host.Outcome State Fault Refusal :=
  .next (s.deliver (recR .sll rd rs1 rs2))

/-- SLT, code 30 (43_integer_register.md R205). -/
def execSlt (rd rs1 rs2 : Reg) (s : State) : Host.Outcome State Fault Refusal :=
  .next (s.deliver (recR .slt rd rs1 rs2))

/-- SLTU, code 31 (43_integer_register.md R206). -/
def execSltu (rd rs1 rs2 : Reg) (s : State) : Host.Outcome State Fault Refusal :=
  .next (s.deliver (recR .sltu rd rs1 rs2))

/-- XOR, code 32 (43_integer_register.md R207). -/
def execXor (rd rs1 rs2 : Reg) (s : State) : Host.Outcome State Fault Refusal :=
  .next (s.deliver (recR .xor rd rs1 rs2))

/-- SRL, code 33 (43_integer_register.md R208). -/
def execSrl (rd rs1 rs2 : Reg) (s : State) : Host.Outcome State Fault Refusal :=
  .next (s.deliver (recR .srl rd rs1 rs2))

/-- SRA, code 34 (43_integer_register.md R209). -/
def execSra (rd rs1 rs2 : Reg) (s : State) : Host.Outcome State Fault Refusal :=
  .next (s.deliver (recR .sra rd rs1 rs2))

/-- OR, code 35 (43_integer_register.md R210). -/
def execOr (rd rs1 rs2 : Reg) (s : State) : Host.Outcome State Fault Refusal :=
  .next (s.deliver (recR .or rd rs1 rs2))

/-- AND, code 36 (43_integer_register.md R211). -/
def execAnd (rd rs1 rs2 : Reg) (s : State) : Host.Outcome State Fault Refusal :=
  .next (s.deliver (recR .and rd rs1 rs2))

/-- MUL, code 37 (43_integer_register.md R212). -/
def execMul (rd rs1 rs2 : Reg) (s : State) : Host.Outcome State Fault Refusal :=
  .next (s.deliver (recR .mul rd rs1 rs2))

/-- MULH, code 38 (43_integer_register.md R213). -/
def execMulh (rd rs1 rs2 : Reg) (s : State) : Host.Outcome State Fault Refusal :=
  .next (s.deliver (recR .mulh rd rs1 rs2))

/-- MULHSU, code 39 (43_integer_register.md R214). -/
def execMulhsu (rd rs1 rs2 : Reg) (s : State) : Host.Outcome State Fault Refusal :=
  .next (s.deliver (recR .mulhsu rd rs1 rs2))

/-- MULHU, code 40 (43_integer_register.md R215). -/
def execMulhu (rd rs1 rs2 : Reg) (s : State) : Host.Outcome State Fault Refusal :=
  .next (s.deliver (recR .mulhu rd rs1 rs2))

/-- DIV, code 41 (43_integer_register.md R216). -/
def execDiv (rd rs1 rs2 : Reg) (s : State) : Host.Outcome State Fault Refusal :=
  .next (s.deliver (recR .div rd rs1 rs2))

/-- DIVU, code 42 (43_integer_register.md R217). -/
def execDivu (rd rs1 rs2 : Reg) (s : State) : Host.Outcome State Fault Refusal :=
  .next (s.deliver (recR .divu rd rs1 rs2))

/-- REM, code 43 (43_integer_register.md R218). -/
def execRem (rd rs1 rs2 : Reg) (s : State) : Host.Outcome State Fault Refusal :=
  .next (s.deliver (recR .rem rd rs1 rs2))

/-- REMU, code 44 (43_integer_register.md R219). -/
def execRemu (rd rs1 rs2 : Reg) (s : State) : Host.Outcome State Fault Refusal :=
  .next (s.deliver (recR .remu rd rs1 rs2))

/-- ADDW, code 45 (43_integer_register.md R220). -/
def execAddw (rd rs1 rs2 : Reg) (s : State) : Host.Outcome State Fault Refusal :=
  .next (s.deliver (recR .addw rd rs1 rs2))

/-- SUBW, code 46 (43_integer_register.md R221). -/
def execSubw (rd rs1 rs2 : Reg) (s : State) : Host.Outcome State Fault Refusal :=
  .next (s.deliver (recR .subw rd rs1 rs2))

/-- SLLW, code 47 (43_integer_register.md R222). -/
def execSllw (rd rs1 rs2 : Reg) (s : State) : Host.Outcome State Fault Refusal :=
  .next (s.deliver (recR .sllw rd rs1 rs2))

/-- SRLW, code 48 (43_integer_register.md R223). -/
def execSrlw (rd rs1 rs2 : Reg) (s : State) : Host.Outcome State Fault Refusal :=
  .next (s.deliver (recR .srlw rd rs1 rs2))

/-- SRAW, code 49 (43_integer_register.md R224). -/
def execSraw (rd rs1 rs2 : Reg) (s : State) : Host.Outcome State Fault Refusal :=
  .next (s.deliver (recR .sraw rd rs1 rs2))

/-- MULW, code 50 (43_integer_register.md R225). -/
def execMulw (rd rs1 rs2 : Reg) (s : State) : Host.Outcome State Fault Refusal :=
  .next (s.deliver (recR .mulw rd rs1 rs2))

/-- DIVW, code 51 (43_integer_register.md R226). -/
def execDivw (rd rs1 rs2 : Reg) (s : State) : Host.Outcome State Fault Refusal :=
  .next (s.deliver (recR .divw rd rs1 rs2))

/-- DIVUW, code 52 (43_integer_register.md R227). -/
def execDivuw (rd rs1 rs2 : Reg) (s : State) : Host.Outcome State Fault Refusal :=
  .next (s.deliver (recR .divuw rd rs1 rs2))

/-- REMW, code 53 (43_integer_register.md R228). -/
def execRemw (rd rs1 rs2 : Reg) (s : State) : Host.Outcome State Fault Refusal :=
  .next (s.deliver (recR .remw rd rs1 rs2))

/-- REMUW, code 54 (43_integer_register.md R229). -/
def execRemuw (rd rs1 rs2 : Reg) (s : State) : Host.Outcome State Fault Refusal :=
  .next (s.deliver (recR .remuw rd rs1 rs2))

end Sys2Proof.Machine
end

