-- ==== Sys2Proof/Machine/LoadStore.lean ====
section
/-! DEFINITION. Loads and stores (41_loads_stores.md).
A meaning delivers the row's record and moves no data (R152). -/

namespace Sys2Proof.Machine

/-- LB, code 1 (41_loads_stores.md R153). -/
def execLb (rd rs1 : Reg) (imm : Imm) (s : State) : Host.Outcome State Fault Refusal :=
  .next (s.deliver (recI .lb rd rs1 imm))

/-- LH, code 2 (41_loads_stores.md R154). -/
def execLh (rd rs1 : Reg) (imm : Imm) (s : State) : Host.Outcome State Fault Refusal :=
  .next (s.deliver (recI .lh rd rs1 imm))

/-- LW, code 3 (41_loads_stores.md R155). -/
def execLw (rd rs1 : Reg) (imm : Imm) (s : State) : Host.Outcome State Fault Refusal :=
  .next (s.deliver (recI .lw rd rs1 imm))

/-- LD, code 4 (41_loads_stores.md R156). -/
def execLd (rd rs1 : Reg) (imm : Imm) (s : State) : Host.Outcome State Fault Refusal :=
  .next (s.deliver (recI .ld rd rs1 imm))

/-- LBU, code 5 (41_loads_stores.md R157). -/
def execLbu (rd rs1 : Reg) (imm : Imm) (s : State) : Host.Outcome State Fault Refusal :=
  .next (s.deliver (recI .lbu rd rs1 imm))

/-- LHU, code 6 (41_loads_stores.md R158). -/
def execLhu (rd rs1 : Reg) (imm : Imm) (s : State) : Host.Outcome State Fault Refusal :=
  .next (s.deliver (recI .lhu rd rs1 imm))

/-- LWU, code 7 (41_loads_stores.md R159). -/
def execLwu (rd rs1 : Reg) (imm : Imm) (s : State) : Host.Outcome State Fault Refusal :=
  .next (s.deliver (recI .lwu rd rs1 imm))

/-- SB, code 8 (41_loads_stores.md R160). -/
def execSb (rs1 rs2 : Reg) (imm : Imm) (s : State) : Host.Outcome State Fault Refusal :=
  .next (s.deliver (recS .sb rs1 rs2 imm))

/-- SH, code 9 (41_loads_stores.md R161). -/
def execSh (rs1 rs2 : Reg) (imm : Imm) (s : State) : Host.Outcome State Fault Refusal :=
  .next (s.deliver (recS .sh rs1 rs2 imm))

/-- SW, code 10 (41_loads_stores.md R162). -/
def execSw (rs1 rs2 : Reg) (imm : Imm) (s : State) : Host.Outcome State Fault Refusal :=
  .next (s.deliver (recS .sw rs1 rs2 imm))

/-- SD, code 11 (41_loads_stores.md R163). -/
def execSd (rs1 rs2 : Reg) (imm : Imm) (s : State) : Host.Outcome State Fault Refusal :=
  .next (s.deliver (recS .sd rs1 rs2 imm))

end Sys2Proof.Machine
end

