-- ==== Sys2Proof/Machine/System.lean ====
section
/-! DEFINITION. System and misc-mem rows (46_system_misc_mem.md).
A meaning delivers the row's record; no privilege is checked, no trap is raised and nothing is ordered (R292). -/

namespace Sys2Proof.Machine

/-- ECALL, code 85 (46_system_misc_mem.md R293). -/
def execEcall (rd rs1 : Reg) (imm : Imm) (s : State) : Host.Outcome State Fault Refusal :=
  .next (s.deliver (recI .ecall rd rs1 imm))

/-- CSRRW, code 86 (46_system_misc_mem.md R294). -/
def execCsrrw (rd rs1 : Reg) (imm : Imm) (s : State) : Host.Outcome State Fault Refusal :=
  .next (s.deliver (recI .csrrw rd rs1 imm))

/-- CSRRS, code 87 (46_system_misc_mem.md R295). -/
def execCsrrs (rd rs1 : Reg) (imm : Imm) (s : State) : Host.Outcome State Fault Refusal :=
  .next (s.deliver (recI .csrrs rd rs1 imm))

/-- CSRRC, code 88 (46_system_misc_mem.md R296). -/
def execCsrrc (rd rs1 : Reg) (imm : Imm) (s : State) : Host.Outcome State Fault Refusal :=
  .next (s.deliver (recI .csrrc rd rs1 imm))

/-- CSRRWI, code 89 (46_system_misc_mem.md R297). -/
def execCsrrwi (rd rs1 : Reg) (imm : Imm) (s : State) : Host.Outcome State Fault Refusal :=
  .next (s.deliver (recI .csrrwi rd rs1 imm))

/-- CSRRSI, code 90 (46_system_misc_mem.md R298). -/
def execCsrrsi (rd rs1 : Reg) (imm : Imm) (s : State) : Host.Outcome State Fault Refusal :=
  .next (s.deliver (recI .csrrsi rd rs1 imm))

/-- CSRRCI, code 91 (46_system_misc_mem.md R299). -/
def execCsrrci (rd rs1 : Reg) (imm : Imm) (s : State) : Host.Outcome State Fault Refusal :=
  .next (s.deliver (recI .csrrci rd rs1 imm))

/-- FENCE, code 92 (46_system_misc_mem.md R300). -/
def execFence (rd rs1 : Reg) (imm : Imm) (s : State) : Host.Outcome State Fault Refusal :=
  .next (s.deliver (recI .fence rd rs1 imm))

/-- FENCEI, code 93 (46_system_misc_mem.md R301). -/
def execFencei (rd rs1 : Reg) (imm : Imm) (s : State) : Host.Outcome State Fault Refusal :=
  .next (s.deliver (recI .fencei rd rs1 imm))

end Sys2Proof.Machine
end

