-- ==== Sys2Proof/Machine/Dispatch.lean ====
section
/-! DEFINITION. The meaning of every instruction, one arm per constructor of Instr. -/

namespace Sys2Proof.Machine

def exec (i : Instr) (s : State) : Host.Outcome State Fault Refusal :=
  match i with
  -- Loads and stores (41_loads_stores.md)
  | .lb rd rs1 imm => Sys2Proof.Machine.execLb rd rs1 imm s
  | .lh rd rs1 imm => Sys2Proof.Machine.execLh rd rs1 imm s
  | .lw rd rs1 imm => Sys2Proof.Machine.execLw rd rs1 imm s
  | .ld rd rs1 imm => Sys2Proof.Machine.execLd rd rs1 imm s
  | .lbu rd rs1 imm => Sys2Proof.Machine.execLbu rd rs1 imm s
  | .lhu rd rs1 imm => Sys2Proof.Machine.execLhu rd rs1 imm s
  | .lwu rd rs1 imm => Sys2Proof.Machine.execLwu rd rs1 imm s
  | .sb rs1 rs2 imm => Sys2Proof.Machine.execSb rs1 rs2 imm s
  | .sh rs1 rs2 imm => Sys2Proof.Machine.execSh rs1 rs2 imm s
  | .sw rs1 rs2 imm => Sys2Proof.Machine.execSw rs1 rs2 imm s
  | .sd rs1 rs2 imm => Sys2Proof.Machine.execSd rs1 rs2 imm s
  -- Integer-immediate, shift-immediate and upper-immediate rows (42_integer_immediate.md)
  | .addi rd rs1 imm => Sys2Proof.Machine.execAddi rd rs1 imm s
  | .slti rd rs1 imm => Sys2Proof.Machine.execSlti rd rs1 imm s
  | .sltiu rd rs1 imm => Sys2Proof.Machine.execSltiu rd rs1 imm s
  | .xori rd rs1 imm => Sys2Proof.Machine.execXori rd rs1 imm s
  | .ori rd rs1 imm => Sys2Proof.Machine.execOri rd rs1 imm s
  | .andi rd rs1 imm => Sys2Proof.Machine.execAndi rd rs1 imm s
  | .slli rd rs1 imm => Sys2Proof.Machine.execSlli rd rs1 imm s
  | .srli rd rs1 imm => Sys2Proof.Machine.execSrli rd rs1 imm s
  | .srai rd rs1 imm => Sys2Proof.Machine.execSrai rd rs1 imm s
  | .lui rd imm => Sys2Proof.Machine.execLui rd imm s
  | .auipc rd imm => Sys2Proof.Machine.execAuipc rd imm s
  | .addiw rd rs1 imm => Sys2Proof.Machine.execAddiw rd rs1 imm s
  | .slliw rd rs1 imm => Sys2Proof.Machine.execSlliw rd rs1 imm s
  | .srliw rd rs1 imm => Sys2Proof.Machine.execSrliw rd rs1 imm s
  | .sraiw rd rs1 imm => Sys2Proof.Machine.execSraiw rd rs1 imm s
  -- Register-register, multiply-divide and 32-bit-narrow rows (43_integer_register.md)
  | .add rd rs1 rs2 => Sys2Proof.Machine.execAdd rd rs1 rs2 s
  | .sub rd rs1 rs2 => Sys2Proof.Machine.execSub rd rs1 rs2 s
  | .sll rd rs1 rs2 => Sys2Proof.Machine.execSll rd rs1 rs2 s
  | .slt rd rs1 rs2 => Sys2Proof.Machine.execSlt rd rs1 rs2 s
  | .sltu rd rs1 rs2 => Sys2Proof.Machine.execSltu rd rs1 rs2 s
  | .xor rd rs1 rs2 => Sys2Proof.Machine.execXor rd rs1 rs2 s
  | .srl rd rs1 rs2 => Sys2Proof.Machine.execSrl rd rs1 rs2 s
  | .sra rd rs1 rs2 => Sys2Proof.Machine.execSra rd rs1 rs2 s
  | .or rd rs1 rs2 => Sys2Proof.Machine.execOr rd rs1 rs2 s
  | .and rd rs1 rs2 => Sys2Proof.Machine.execAnd rd rs1 rs2 s
  | .mul rd rs1 rs2 => Sys2Proof.Machine.execMul rd rs1 rs2 s
  | .mulh rd rs1 rs2 => Sys2Proof.Machine.execMulh rd rs1 rs2 s
  | .mulhsu rd rs1 rs2 => Sys2Proof.Machine.execMulhsu rd rs1 rs2 s
  | .mulhu rd rs1 rs2 => Sys2Proof.Machine.execMulhu rd rs1 rs2 s
  | .div rd rs1 rs2 => Sys2Proof.Machine.execDiv rd rs1 rs2 s
  | .divu rd rs1 rs2 => Sys2Proof.Machine.execDivu rd rs1 rs2 s
  | .rem rd rs1 rs2 => Sys2Proof.Machine.execRem rd rs1 rs2 s
  | .remu rd rs1 rs2 => Sys2Proof.Machine.execRemu rd rs1 rs2 s
  | .addw rd rs1 rs2 => Sys2Proof.Machine.execAddw rd rs1 rs2 s
  | .subw rd rs1 rs2 => Sys2Proof.Machine.execSubw rd rs1 rs2 s
  | .sllw rd rs1 rs2 => Sys2Proof.Machine.execSllw rd rs1 rs2 s
  | .srlw rd rs1 rs2 => Sys2Proof.Machine.execSrlw rd rs1 rs2 s
  | .sraw rd rs1 rs2 => Sys2Proof.Machine.execSraw rd rs1 rs2 s
  | .mulw rd rs1 rs2 => Sys2Proof.Machine.execMulw rd rs1 rs2 s
  | .divw rd rs1 rs2 => Sys2Proof.Machine.execDivw rd rs1 rs2 s
  | .divuw rd rs1 rs2 => Sys2Proof.Machine.execDivuw rd rs1 rs2 s
  | .remw rd rs1 rs2 => Sys2Proof.Machine.execRemw rd rs1 rs2 s
  | .remuw rd rs1 rs2 => Sys2Proof.Machine.execRemuw rd rs1 rs2 s
  -- Atomic-memory rows (44_atomic.md)
  | .lrW rd rs1 rs2 imm => Sys2Proof.Machine.execLrW rd rs1 rs2 imm s
  | .scW rd rs1 rs2 imm => Sys2Proof.Machine.execScW rd rs1 rs2 imm s
  | .amoswapW rd rs1 rs2 imm => Sys2Proof.Machine.execAmoswapW rd rs1 rs2 imm s
  | .amoaddW rd rs1 rs2 imm => Sys2Proof.Machine.execAmoaddW rd rs1 rs2 imm s
  | .amoxorW rd rs1 rs2 imm => Sys2Proof.Machine.execAmoxorW rd rs1 rs2 imm s
  | .amoandW rd rs1 rs2 imm => Sys2Proof.Machine.execAmoandW rd rs1 rs2 imm s
  | .amoorW rd rs1 rs2 imm => Sys2Proof.Machine.execAmoorW rd rs1 rs2 imm s
  | .amominW rd rs1 rs2 imm => Sys2Proof.Machine.execAmominW rd rs1 rs2 imm s
  | .amomaxW rd rs1 rs2 imm => Sys2Proof.Machine.execAmomaxW rd rs1 rs2 imm s
  | .amominuW rd rs1 rs2 imm => Sys2Proof.Machine.execAmominuW rd rs1 rs2 imm s
  | .amomaxuW rd rs1 rs2 imm => Sys2Proof.Machine.execAmomaxuW rd rs1 rs2 imm s
  | .lrD rd rs1 rs2 imm => Sys2Proof.Machine.execLrD rd rs1 rs2 imm s
  | .scD rd rs1 rs2 imm => Sys2Proof.Machine.execScD rd rs1 rs2 imm s
  | .amoswapD rd rs1 rs2 imm => Sys2Proof.Machine.execAmoswapD rd rs1 rs2 imm s
  | .amoaddD rd rs1 rs2 imm => Sys2Proof.Machine.execAmoaddD rd rs1 rs2 imm s
  | .amoxorD rd rs1 rs2 imm => Sys2Proof.Machine.execAmoxorD rd rs1 rs2 imm s
  | .amoandD rd rs1 rs2 imm => Sys2Proof.Machine.execAmoandD rd rs1 rs2 imm s
  | .amoorD rd rs1 rs2 imm => Sys2Proof.Machine.execAmoorD rd rs1 rs2 imm s
  | .amominD rd rs1 rs2 imm => Sys2Proof.Machine.execAmominD rd rs1 rs2 imm s
  | .amomaxD rd rs1 rs2 imm => Sys2Proof.Machine.execAmomaxD rd rs1 rs2 imm s
  | .amominuD rd rs1 rs2 imm => Sys2Proof.Machine.execAmominuD rd rs1 rs2 imm s
  | .amomaxuD rd rs1 rs2 imm => Sys2Proof.Machine.execAmomaxuD rd rs1 rs2 imm s
  -- Branches and jumps (45_control_transfer.md)
  | .beq rs1 rs2 imm => Sys2Proof.Machine.execBeq rs1 rs2 imm s
  | .bne rs1 rs2 imm => Sys2Proof.Machine.execBne rs1 rs2 imm s
  | .blt rs1 rs2 imm => Sys2Proof.Machine.execBlt rs1 rs2 imm s
  | .bge rs1 rs2 imm => Sys2Proof.Machine.execBge rs1 rs2 imm s
  | .bltu rs1 rs2 imm => Sys2Proof.Machine.execBltu rs1 rs2 imm s
  | .bgeu rs1 rs2 imm => Sys2Proof.Machine.execBgeu rs1 rs2 imm s
  | .jalr rd rs1 imm => Sys2Proof.Machine.execJalr rd rs1 imm s
  | .jal rd imm => Sys2Proof.Machine.execJal rd imm s
  -- System and misc-mem rows (46_system_misc_mem.md)
  | .ecall rd rs1 imm => Sys2Proof.Machine.execEcall rd rs1 imm s
  | .csrrw rd rs1 imm => Sys2Proof.Machine.execCsrrw rd rs1 imm s
  | .csrrs rd rs1 imm => Sys2Proof.Machine.execCsrrs rd rs1 imm s
  | .csrrc rd rs1 imm => Sys2Proof.Machine.execCsrrc rd rs1 imm s
  | .csrrwi rd rs1 imm => Sys2Proof.Machine.execCsrrwi rd rs1 imm s
  | .csrrsi rd rs1 imm => Sys2Proof.Machine.execCsrrsi rd rs1 imm s
  | .csrrci rd rs1 imm => Sys2Proof.Machine.execCsrrci rd rs1 imm s
  | .fence rd rs1 imm => Sys2Proof.Machine.execFence rd rs1 imm s
  | .fencei rd rs1 imm => Sys2Proof.Machine.execFencei rd rs1 imm s

end Sys2Proof.Machine
end

