-- ==== Sys2Proof/Machine/Flags.lean ====
section
/-! DEFINITION. The block has no status flag and no condition code (10_state.md R24): nothing here is a flag of an
instruction. What the block does have are the codes its output ports carry (10_state.md R30, R32, R34). -/

namespace Sys2Proof.Machine

/-- The 2-bit `status` output: OK 0, PARTIAL 1, UNDEFINED 2 (10_state.md R34). -/
def Answer.status : Answer → BitVec 2
  | .ok _ _ => 0
  | .partialInput => 1
  | .undefined => 2

/-- The 3-bit `consumed` output, which has a meaning only with status OK (10_state.md R30). -/
def Answer.consumed : Answer → Option (BitVec 3)
  | .ok n _ => some (BitVec.ofNat 3 n)
  | .partialInput => none
  | .undefined => none

/-- The 6-bit bus of a register field: a valid bit and the 5-bit index; valid = 0 means absent and the index bits
are then 0 (10_state.md R32). The valid bit stands above the index (log entry 13). -/
def regBus : Option Reg → BitVec 6
  | some n => 1#1 ++ regBits n
  | none => 0

end Sys2Proof.Machine
end

