-- ==== Sys2Proof/Machine/Formatter.lean ====
section
/-! DEFINITION. The Formatter: the register/immediate formatter and the bounded writer (48_formatter.md). -/

namespace Sys2Proof.Machine

/-- One decimal digit, `0` to `9` (48_formatter.md R324). -/
def digit (n : Nat) : Byte := BitVec.ofNat 8 (0x30 + n)

/-- The decimal digits of `n`, most significant first, at most `fuel` of them. -/
def digits : (fuel : Nat) → (n : Nat) → List Byte
  | 0, _ => []
  | fuel + 1, n => if n < 10 then [digit n] else digits fuel (n / 10) ++ [digit (n % 10)]

/-- `dec(n)`: decimal, no leading zero (48_formatter.md R316, R319). Ten digits hold every 32-bit magnitude. -/
def dec (n : Nat) : List Byte := digits 10 n

/-- `sdec(v)`: a single leading `-` for a negative value, and the magnitude taken in a wider type, so that
-2147483648 prints exactly (48_formatter.md R319, R320). -/
def sdec (v : Imm) : List Byte :=
  if v.toInt < 0 then ascii "-" ++ dec v.toInt.natAbs else dec v.toInt.natAbs

/-- A separator and a register token, for a field that is present (48_formatter.md R315 to R317). -/
def regText : Option Reg → List Byte
  | some n => ascii " r" ++ dec n.val
  | none => []

/-- A separator and the immediate, if it is nonzero (48_formatter.md R318). -/
def immText (v : Imm) : List Byte := if v = 0 then [] else ascii " " ++ sdec v

/-- The placeholder of a code with no token (48_formatter.md R313). -/
def placeholder : List Byte := ascii "<invalid>"

/-- The full text `S` of a record (48_formatter.md R326); no shape is consulted (R328). -/
def fullText (rom : NameRom) (r : Record) : List Byte :=
  match tokenOf rom r.mnemonic with
  | none => placeholder
  | some token => token ++ regText r.rd ++ regText r.rs1 ++ regText r.rs2 ++ regText r.rs3 ++ immText r.imm

/-- What the bounded writer puts in cells 0, 1, …: the first `cap - 1` characters at most, then NUL; nothing when
`cap = 0` (48_formatter.md R311, R321, R322). -/
def boundedText (cap : Nat) (text : List Byte) : List Byte :=
  if cap = 0 then [] else text.take (cap - 1) ++ [0x00]

/-- The format operation (48_formatter.md R327) on a record the state's request names; cells that the writer does not
reach keep the caller's contents (R323), and overlapped cells hold any value (70_reset_and_hazards.md R387).
DESIGN CHOICE (log entry 18, unsafe): every cell of the buffer is taken as present and writable; the spec gives no outcome
for a caller that does not own `cap` writable cells (R384). -/
def State.afterFormat (s : State) (q : FormatReq) (rest : List Request) : State :=
  { s.served rest with
    outMem :=
      (s.outMem.writeRange q.base (boundedText q.cap (fullText s.nameRom (s.recordFor q.source)))).writeCells
        (freeCells s.draws q.base q.cap q.overlap) }

end Sys2Proof.Machine
end

