-- ==== Sys2Proof/Machine/Step.lean ====
section
/-! DEFINITION. One step serves the oldest pending request as one indivisible operation
(70_reset_and_hazards.md R388). -/

namespace Sys2Proof.Machine

/-- With no request pending the block does nothing (log entry 2). A decode that finds an instruction runs its meaning
on the state in which the request has been served; one that does not answers with its diagnostic. -/
def step (s : State) : Host.Outcome State Fault Refusal :=
  match s.pending with
  | [] => .next s
  | .format q :: rest => .next (s.afterFormat q rest)
  | .decode q :: rest =>
    match fetch s q with
    | .ok i => exec i (s.afterDecode q rest)
    | .partialInput => .next (s.afterDecode q rest).diagnosePartial
    | .undefinedWord why => .next ((s.afterDecode q rest).diagnoseUndefined why)

/-- The instruction stored where the next step fetches: at the start of the input storage, with a request to decode
it at the head of the queue (log entry 1). -/
def State.withFetchWord (s : State) (nbits w : Nat) : State :=
  s.placeWord (BitVec.ofNat 32 (w % 2 ^ nbits))

end Sys2Proof.Machine
end

