-- ==== Sys2Proof/Safety.lean ====
section
/-! DEFINITION. The terms the statements use: the invariant, the form of a row's rule, and the small notions that the
rules of spec/ speak of. Nothing here is used by the machine. -/

namespace Sys2Proof.Safety

open Sys2Proof.Machine

/-! ## The word a request decodes -/

/-- The 32-bit word of the first four cells, little-endian (20_memory.md R52). -/
def wordAt (f : Nat → Byte) : Word := f 3 ++ f 2 ++ f 1 ++ f 0

/-- The first byte marks a compressed form (40_decode_pipeline.md R122). -/
abbrev Compressed (b0 : Byte) : Prop := b0.extractLsb' 0 2 ≠ 0b11#2

/-- The first byte marks an over-length form (40_decode_pipeline.md R123). -/
abbrev OverLength (b0 : Byte) : Prop := b0.extractLsb' 2 3 = 0b111#3

/-- The five bits from `lo` up, as a register. -/
def field5 (w : Word) (lo : Nat) : Reg := (w.extractLsb' lo 5).toFin

/-- The caller keeps its duties on a decode request (70_reset_and_hazards.md R384, R386, R387): nothing changes, nothing
overlaps, and every byte the Decoder may read is there. -/
def KeptDuties (s : State) (q : DecodeReq) : Prop :=
  q.changes = [] ∧ q.overlap = [] ∧ ∀ i, i < q.inLen → i < 4 → (s.inMem.read (q.base + i)).isSome = true

/-! ## Records -/

/-- The range of `imm` for each shape (30_encoding.md R86 to R94). -/
def immInRange : Shape → Imm → Prop
  | .r, v => v = 0
  | .i, v => -2048 ≤ v.toInt ∧ v.toInt ≤ 2047
  | .s, v => -2048 ≤ v.toInt ∧ v.toInt ≤ 2047
  | .b, v => -4096 ≤ v.toInt ∧ v.toInt ≤ 4094 ∧ v.toNat % 2 = 0
  | .u, v => v.toNat % 4096 = 0
  | .j, v => -1048576 ≤ v.toInt ∧ v.toInt ≤ 1048574 ∧ v.toNat % 2 = 0
  | .amo, v => v.toNat ≤ 3
  | .sh, v => v.toNat ≤ 63

/-- What every record of a successful decode satisfies (10_state.md R38): its code is a mnemonic's, its present fields
and its immediate are of that mnemonic's shape, and `rs3` is absent. -/
def DecodedRecord (r : Record) : Prop :=
  ∃ m : Mnemonic, r.mnemonic = m.code ∧ r.rd.isSome = m.shape.hasRd ∧ r.rs1.isSome = m.shape.hasRs1 ∧
    r.rs2.isSome = m.shape.hasRs2 ∧ r.rs3 = none ∧ immInRange m.shape r.imm

/-- An answer on the Decoder's outputs is one that a decode can give (10_state.md R30, R38). -/
def AnswerLegal : Option Answer → Prop
  | none => True
  | some .partialInput => True
  | some .undefined => True
  | some (.ok n r) => n = 4 ∧ DecodedRecord r

/-- The invariant: both of the caller's storages are canonical, both ROMs hold their fixed contents
(70_reset_and_hazards.md R381), and the Decoder's outputs hold no answer that a decode cannot give. -/
structure Inv (s : State) : Prop where
  inMem : s.inMem.wf = true
  outMem : s.outMem.wf = true
  mnemRom : s.mnemRom = Sys2Proof.mnemRom
  nameRom : s.nameRom = Sys2Proof.Machine.nameRom
  decoded : AnswerLegal s.decoded

/-! ## The form of a row's rule (40_decode_pipeline.md section 4) -/

/-- Encoding: among complete buffers, exactly those whose word has the row's match under its mask decode to the row,
with the operands that `mk` takes from the word. -/
def RowEncoding (mk : Word → Instr) (wordMatch mask : Word) : Prop :=
  ∀ (n : Nat) (f : Nat → Byte), 4 ≤ n →
    (decode mnemRom n f = .ok (mk (wordAt f)) ↔ wordAt f &&& mask = wordMatch)

/-- The meaning and the text: in every state the instruction completes, puts status OK, byte count 4 and the record on
the Decoder's outputs and changes nothing else; and the text of that record is `text`. -/
def RowDelivers (i : Instr) (r : Record) (text : List Byte) : Prop :=
  (∀ s : State, exec i s = .next { s with decoded := some (.ok 4 r) }) ∧ fullText nameRom r = text

/-- A register token after its separator. -/
def rText (n : Reg) : List Byte := ascii " r" ++ dec n.val

/-- The immediate's part of the text: only when it is nonzero, in signed decimal. -/
def iText (v : Imm) : List Byte := if v = 0 then [] else ascii " " ++ sdec v

/-- A row of the register-register shape (30_encoding.md R86). -/
def RowR (mk : Reg → Reg → Reg → Instr) (code : MnemCode) (token : String) (wordMatch mask : Word) : Prop :=
  RowEncoding (fun w => mk (field5 w 7) (field5 w 15) (field5 w 20)) wordMatch mask ∧
  ∀ rd rs1 rs2, RowDelivers (mk rd rs1 rs2)
    { mnemonic := code, rd := some rd, rs1 := some rs1, rs2 := some rs2, rs3 := none, imm := 0 }
    (ascii token ++ rText rd ++ rText rs1 ++ rText rs2)

/-- A row of the integer-immediate shape (30_encoding.md R87). -/
def RowI (mk : Reg → Reg → Imm → Instr) (code : MnemCode) (token : String) (wordMatch mask : Word) : Prop :=
  RowEncoding (fun w => mk (field5 w 7) (field5 w 15) ((w.extractLsb' 20 12).signExtend 32)) wordMatch mask ∧
  ∀ rd rs1 imm, RowDelivers (mk rd rs1 imm)
    { mnemonic := code, rd := some rd, rs1 := some rs1, rs2 := none, rs3 := none, imm := imm }
    (ascii token ++ rText rd ++ rText rs1 ++ iText imm)

/-- A row of the store shape (30_encoding.md R88). -/
def RowS (mk : Reg → Reg → Imm → Instr) (code : MnemCode) (token : String) (wordMatch mask : Word) : Prop :=
  RowEncoding (fun w => mk (field5 w 15) (field5 w 20) ((w.extractLsb' 25 7 ++ w.extractLsb' 7 5).signExtend 32))
    wordMatch mask ∧
  ∀ rs1 rs2 imm, RowDelivers (mk rs1 rs2 imm)
    { mnemonic := code, rd := none, rs1 := some rs1, rs2 := some rs2, rs3 := none, imm := imm }
    (ascii token ++ rText rs1 ++ rText rs2 ++ iText imm)

/-- A row of the branch shape (30_encoding.md R89). -/
def RowB (mk : Reg → Reg → Imm → Instr) (code : MnemCode) (token : String) (wordMatch mask : Word) : Prop :=
  RowEncoding (fun w => mk (field5 w 15) (field5 w 20)
    ((w.extractLsb' 31 1 ++ w.extractLsb' 7 1 ++ w.extractLsb' 25 6 ++ w.extractLsb' 8 4 ++ 0#1).signExtend 32))
    wordMatch mask ∧
  ∀ rs1 rs2 imm, RowDelivers (mk rs1 rs2 imm)
    { mnemonic := code, rd := none, rs1 := some rs1, rs2 := some rs2, rs3 := none, imm := imm }
    (ascii token ++ rText rs1 ++ rText rs2 ++ iText imm)

/-- A row of the upper-immediate shape (30_encoding.md R90). -/
def RowU (mk : Reg → Imm → Instr) (code : MnemCode) (token : String) (wordMatch mask : Word) : Prop :=
  RowEncoding (fun w => mk (field5 w 7) (w.extractLsb' 12 20 ++ 0#12)) wordMatch mask ∧
  ∀ rd imm, RowDelivers (mk rd imm)
    { mnemonic := code, rd := some rd, rs1 := none, rs2 := none, rs3 := none, imm := imm }
    (ascii token ++ rText rd ++ iText imm)

/-- A row of the jump shape (30_encoding.md R91). -/
def RowJ (mk : Reg → Imm → Instr) (code : MnemCode) (token : String) (wordMatch mask : Word) : Prop :=
  RowEncoding (fun w => mk (field5 w 7)
    ((w.extractLsb' 31 1 ++ w.extractLsb' 12 8 ++ w.extractLsb' 20 1 ++ w.extractLsb' 21 10 ++ 0#1).signExtend 32))
    wordMatch mask ∧
  ∀ rd imm, RowDelivers (mk rd imm)
    { mnemonic := code, rd := some rd, rs1 := none, rs2 := none, rs3 := none, imm := imm }
    (ascii token ++ rText rd ++ iText imm)

/-- A row of the atomic-memory shape (30_encoding.md R92). -/
def RowAmo (mk : Reg → Reg → Reg → Imm → Instr) (code : MnemCode) (token : String) (wordMatch mask : Word) : Prop :=
  RowEncoding (fun w => mk (field5 w 7) (field5 w 15) (field5 w 20) ((w.extractLsb' 25 2).setWidth 32))
    wordMatch mask ∧
  ∀ rd rs1 rs2 imm, RowDelivers (mk rd rs1 rs2 imm)
    { mnemonic := code, rd := some rd, rs1 := some rs1, rs2 := some rs2, rs3 := none, imm := imm }
    (ascii token ++ rText rd ++ rText rs1 ++ rText rs2 ++ iText imm)

/-- A row of the immediate-shift-amount shape (30_encoding.md R93). -/
def RowSh (mk : Reg → Reg → Imm → Instr) (code : MnemCode) (token : String) (wordMatch mask : Word) : Prop :=
  RowEncoding (fun w => mk (field5 w 7) (field5 w 15) ((w.extractLsb' 20 6).setWidth 32)) wordMatch mask ∧
  ∀ rd rs1 imm, RowDelivers (mk rd rs1 imm)
    { mnemonic := code, rd := some rd, rs1 := some rs1, rs2 := none, rs3 := none, imm := imm }
    (ascii token ++ rText rd ++ rText rs1 ++ iText imm)

/-! ## Other notions of the rules -/

/-- The bits of a word that the row examines nowhere and no operand takes (30_encoding.md R101): funct3 of JALR,
`word[31:26]` of the left shifts, `word[31]` and `word[29:26]` of the right shifts. -/
def unexamined : Instr → Word
  | .slli _ _ _ => 0xFC000000
  | .slliw _ _ _ => 0xFC000000
  | .srli _ _ _ => 0xBC000000
  | .srai _ _ _ => 0xBC000000
  | .srliw _ _ _ => 0xBC000000
  | .sraiw _ _ _ => 0xBC000000
  | .jalr _ _ _ => 0x00007000
  | _ => 0

/-- The number a string of decimal digits stands for. -/
def readDec (cs : List Byte) : Nat := cs.foldl (fun n c => 10 * n + (c.toNat - 0x30)) 0

/-- A nonempty string of decimal digits with no leading zero (48_formatter.md R319). -/
def IsDecimal (cs : List Byte) : Prop :=
  cs ≠ [] ∧ (∀ c ∈ cs, 0x30 ≤ c.toNat ∧ c.toNat ≤ 0x39) ∧ (cs.head? = some 0x30 → cs = [0x30])

/-- The cells of a format's buffer that the caller has shared (70_reset_and_hazards.md R387). -/
def Shared (q : FormatReq) (a : Nat) : Prop := ∃ i ∈ q.overlap, i < q.cap ∧ a = q.base + i

/-- The characters the Formatter writes besides the terminator (48_formatter.md R324). -/
def IsTextChar (c : Byte) : Prop :=
  (0x61 ≤ c.toNat ∧ c.toNat ≤ 0x7A) ∨ (0x30 ≤ c.toNat ∧ c.toNat ≤ 0x39) ∨ c = 0x2E ∨ c = 0x3C ∨ c = 0x3E ∨
    c = 0x2D ∨ c = 0x20

/-- What a decode finds is what the Decoder's outputs show: the record of the instruction found, or the diagnostic. -/
def Answers : Decoded → Option Answer → Prop
  | .ok i, a => ∃ r, (∀ s : State, exec i s = .next { s with decoded := some (.ok 4 r) }) ∧ a = some (.ok 4 r)
  | .partialInput, a => a = some .partialInput
  | .undefinedWord _, a => a = some .undefined

/-- A request whose caller keeps its duties and, for a format, brings its own record. -/
def Clean (s : State) : Request → Prop
  | .decode q => KeptDuties s q
  | .format q => q.overlap = [] ∧ ∃ r, q.source = .given r

/-- A request whose output buffer shares no cell with that of `p` (20_memory.md R61). -/
def Apart (p : FormatReq) : Request → Prop
  | .decode _ => True
  | .format q => p.base + p.cap ≤ q.base ∨ q.base + q.cap ≤ p.base

/-- The state with these requests pending and no other. -/
def withRequests (s : State) (rs : List Request) : State := { s with pending := rs }

/-- The state after `n` steps, when every one of them answers. -/
def Runs (n : Nat) (s t : State) : Prop := Host.Core.run Sys2Proof.core n s = .next t

end Sys2Proof.Safety
end

