-- ==== Sys2Proof/Certificates/Slice0/Obligations.lean ====
section
/-! DEFINITION. The statements for the provers. Each docstring names the rules of spec/ it formalises. -/

open Sys2Proof Sys2Proof.Machine Sys2Proof.Safety

/-- Decode and encode agree on every well-formed instruction, with every operand at every value its encoding admits
(30_encoding.md R86 to R93, 40_decode_pipeline.md R131). -/
def Obligations.DecodeOfEncodeIsTheInstruction : Prop :=
  ∀ i : Instr, i.wellFormed = true →
    ∀ (n : Nat) (f : Nat → Byte), 4 ≤ n → wordAt f = encode i → decode mnemRom n f = .ok i

/-- No bit of a word is dropped but those that 30_encoding.md R101 says are not examined; that the encoder writes 0 there is
the model's choice (log entry 12). -/
def Obligations.DecodeKeepsEveryExaminedBit : Prop :=
  ∀ (n : Nat) (f : Nat → Byte) (i : Instr), decode mnemRom n f = .ok i →
    i.wellFormed = true ∧ encode i = wordAt f &&& ~~~(unexamined i)

/-- The invariant is inductive (10_state.md R26, R27, R30, R38; 70_reset_and_hazards.md R381). -/
def Obligations.StepKeepsTheInvariant : Prop :=
  ∀ s t : State, Inv s → step s = .next t → Inv t

/-- State.reset has the invariant (70_reset_and_hazards.md R381, R382). -/
def Obligations.ResetMeetsTheInvariant : Prop :=
  Inv State.reset

/-- The values at reset: the ROMs as 70_reset_and_hazards.md R381 says, no answer on the outputs (R382); the empty queue, the empty
storages and the counter are the model's choices (log entries 1, 3 and 9). -/
def Obligations.ResetLeavesOnlyTheRoms : Prop :=
  State.reset.mnemRom = mnemRom ∧ State.reset.nameRom = nameRom ∧ State.reset.decoded = none ∧
    State.reset.pending = [] ∧ (∀ a, State.reset.inMem.read a = none) ∧ (∀ a, State.reset.outMem.read a = none) ∧
    State.reset.draws = 0

/-- What step adds around exec (the decode is 40_decode_pipeline.md R131, and one request is one step by
70_reset_and_hazards.md R388). What surrounds it is the model's choice and no rule of spec/: that step serves the head of the
queue (log entry 1), what afterDecode lands of the caller's changes and overlapped cells (log entries 5 and 6), and that
serving advances `draws` by one (log entry 9). -/
def Obligations.StepRunsTheDecodedInstruction : Prop :=
  ∀ (s : State) (q : DecodeReq) (rest : List Request) (i : Instr), s.pending = .decode q :: rest →
    decode s.mnemRom q.inLen (inByte s q) = .ok i →
    step s = exec i (s.afterDecode q rest) ∧
      (KeptDuties s q →
        (∀ j, j < 4 → s.inMem.read (q.base + j) = some (inByte s q j)) ∧
          s.afterDecode q rest = { s with pending := rest, draws := s.draws + 1 })

/-- 40_decode_pipeline.md R132. -/
def Obligations.DecodeTestsInOrder : Prop :=
  ∀ (rom : MnemRom) (n : Nat) (f : Nat → Byte),
    (n < 2 → decode rom n f = .partialInput) ∧
    (2 ≤ n → Compressed (f 0) → decode rom n f = .undefinedWord .compressed) ∧
    (2 ≤ n → ¬Compressed (f 0) → OverLength (f 0) → decode rom n f = .undefinedWord .overlength) ∧
    (2 ≤ n → n < 4 → ¬Compressed (f 0) → ¬OverLength (f 0) → decode rom n f = .partialInput) ∧
    (4 ≤ n → ¬Compressed (f 0) → ¬OverLength (f 0) →
      romLookup rom ((wordAt f).extractLsb' 2 5) ((wordAt f).extractLsb' 12 3) ((wordAt f).extractLsb' 25 7) = none →
      decode rom n f = .undefinedWord .noRow) ∧
    (∀ m, 4 ≤ n → ¬Compressed (f 0) → ¬OverLength (f 0) →
      romLookup rom ((wordAt f).extractLsb' 2 5) ((wordAt f).extractLsb' 12 3) ((wordAt f).extractLsb' 25 7) = some m →
      decode rom n f = .ok (m.instr (wordAt f)))

/-- 60_exceptions.md R350. -/
def Obligations.PartialIsAnsweredExactlyWhen : Prop :=
  ∀ (s : State) (q : DecodeReq) (rest : List Request), s.pending = .decode q :: rest →
    ∃ t, step s = .next t ∧
      (t.decoded = some .partialInput ↔
        q.inLen < 2 ∨ (q.inLen < 4 ∧ ¬Compressed (inByte s q 0) ∧ ¬OverLength (inByte s q 0)))

/-- 60_exceptions.md R352. -/
def Obligations.UndefinedIsAnsweredExactlyWhen : Prop :=
  ∀ (s : State) (q : DecodeReq) (rest : List Request), s.pending = .decode q :: rest →
    ∃ t, step s = .next t ∧
      (t.decoded = some .undefined ↔
        2 ≤ q.inLen ∧
          (Compressed (inByte s q 0) ∨ OverLength (inByte s q 0) ∨
            (4 ≤ q.inLen ∧
              romLookup s.mnemRom ((wordAt (inByte s q)).extractLsb' 2 5) ((wordAt (inByte s q)).extractLsb' 12 3)
                ((wordAt (inByte s q)).extractLsb' 25 7) = none)))

/-- 20_memory.md R54, R55. (The byte count 4 is the row statements'.) -/
def Obligations.DecodeReadsOnlyItsCells : Prop :=
  ∀ (rom : MnemRom) (n n' : Nat) (f g : Nat → Byte),
    (n < 2 → n' < 2 → decode rom n f = decode rom n' g) ∧
    (2 ≤ n → n < 4 → 2 ≤ n' → n' < 4 → f 0 = g 0 → decode rom n f = decode rom n' g) ∧
    (4 ≤ n → 4 ≤ n' → (∀ i, i < 4 → f i = g i) → decode rom n f = decode rom n' g) ∧
    (4 ≤ n → 4 ≤ n' → f 0 = g 0 → Compressed (f 0) ∨ OverLength (f 0) → decode rom n f = decode rom n' g) ∧
    (∀ (i : Instr) (s : State), decode rom n f = .ok i →
      ∃ r, exec i s = .next { s with decoded := some (.ok 4 r) })

/-- 40_decode_pipeline.md R134, with the columns of 30_encoding.md R84. -/
def Obligations.RowsDecodeWhateverTheirOperands : Prop :=
  ∀ row ∈ mnemRom, ∀ (n : Nat) (f : Nat → Byte) (s : State), 4 ≤ n → ¬Compressed (f 0) → ¬OverLength (f 0) →
    row.selects ((wordAt f).extractLsb' 2 5) ((wordAt f).extractLsb' 12 3) ((wordAt f).extractLsb' 25 7) = true →
    ∃ i, decode mnemRom n f = .ok i ∧
      exec i s = .next { s with decoded := some (.ok 4 {
        mnemonic := row.mnemonic.code
        rd := if row.mnemonic.shape.hasRd then some (field5 (wordAt f) 7) else none
        rs1 := if row.mnemonic.shape.hasRs1 then some (field5 (wordAt f) 15) else none
        rs2 := if row.mnemonic.shape.hasRs2 then some (field5 (wordAt f) 20) else none
        rs3 := none
        imm := row.mnemonic.shape.immOf (wordAt f) }) }

/-- 30_encoding.md R96, R99. -/
def Obligations.RomRowsAreExclusive : Prop :=
  mnemRom.length = 93 ∧
    ∀ (op : BitVec 5) (f3 : BitVec 3) (f7 : BitVec 7),
      (∀ row ∈ mnemRom, ∀ row' ∈ mnemRom, row.selects op f3 f7 = true → row'.selects op f3 f7 = true → row = row') ∧
      (∀ row ∈ mnemRom, row.selects op f3 f7 = true → romLookup mnemRom op f3 f7 = some row.mnemonic) ∧
      ((∀ row ∈ mnemRom, row.selects op f3 f7 = false) → romLookup mnemRom op f3 f7 = none)

/-- 30_encoding.md R100, its class (c) from R95 and its class (d) from R150, R151, R170, R171, R200, R201, R240, R270, R290 and R291. -/
def Obligations.UndefinedWordsAreTheListedOnes : Prop :=
  ∀ (n : Nat) (f : Nat → Byte), 4 ≤ n →
    ((∃ why, decode mnemRom n f = .undefinedWord why) ↔
      (wordAt f).extractLsb' 0 2 ≠ 0b11#2 ∨ (wordAt f).extractLsb' 2 3 = 0b111#3 ∨
      (wordAt f).extractLsb' 2 5 ∉ ([0x00, 0x03, 0x04, 0x05, 0x06, 0x08, 0x0B, 0x0C, 0x0D, 0x0E, 0x18, 0x19, 0x1B,
        0x1C] : List (BitVec 5)) ∨
      ((wordAt f).extractLsb' 2 5 = 0x00#5 ∧ (wordAt f).extractLsb' 12 3 = 7#3) ∨
      ((wordAt f).extractLsb' 2 5 = 0x03#5 ∧ 2 ≤ ((wordAt f).extractLsb' 12 3).toNat) ∨
      ((wordAt f).extractLsb' 2 5 = 0x06#5 ∧ (wordAt f).extractLsb' 12 3 ∈ ([2, 3, 4, 6, 7] : List (BitVec 3))) ∨
      ((wordAt f).extractLsb' 2 5 = 0x08#5 ∧ 4 ≤ ((wordAt f).extractLsb' 12 3).toNat) ∨
      ((wordAt f).extractLsb' 2 5 = 0x0B#5 ∧
        ((wordAt f).extractLsb' 12 3 ∉ ([2, 3] : List (BitVec 3)) ∨
          (wordAt f).extractLsb' 27 5 ∉ ([0b00000, 0b00001, 0b00010, 0b00011, 0b00100, 0b01000, 0b01100, 0b10000,
            0b10100, 0b11000, 0b11100] : List (BitVec 5)))) ∨
      ((wordAt f).extractLsb' 2 5 = 0x0C#5 ∧
        ((wordAt f).extractLsb' 25 7 ∉ ([0x00, 0x01, 0x20] : List (BitVec 7)) ∨
          ((wordAt f).extractLsb' 25 7 = 0x20#7 ∧ (wordAt f).extractLsb' 12 3 ∉ ([0, 5] : List (BitVec 3))))) ∨
      ((wordAt f).extractLsb' 2 5 = 0x0E#5 ∧
        ((wordAt f).extractLsb' 25 7 ∉ ([0x00, 0x01, 0x20] : List (BitVec 7)) ∨
          ((wordAt f).extractLsb' 25 7 = 0x00#7 ∧ (wordAt f).extractLsb' 12 3 ∉ ([0, 1, 5] : List (BitVec 3))) ∨
          ((wordAt f).extractLsb' 25 7 = 0x20#7 ∧ (wordAt f).extractLsb' 12 3 ∉ ([0, 5] : List (BitVec 3))) ∨
          ((wordAt f).extractLsb' 25 7 = 0x01#7 ∧ (wordAt f).extractLsb' 12 3 ∈ ([1, 2, 3] : List (BitVec 3))))) ∨
      ((wordAt f).extractLsb' 2 5 = 0x18#5 ∧ (wordAt f).extractLsb' 12 3 ∈ ([2, 3] : List (BitVec 3))) ∨
      ((wordAt f).extractLsb' 2 5 = 0x1C#5 ∧ (wordAt f).extractLsb' 12 3 = 4#3))

/-- 41_loads_stores.md R153, R154, R155, R156, R157, R158, R159. -/
def Obligations.LoadRows : Prop :=
  RowI .lb 1 "lb" 0x00000003 0x0000707F ∧
  RowI .lh 2 "lh" 0x00001003 0x0000707F ∧
  RowI .lw 3 "lw" 0x00002003 0x0000707F ∧
  RowI .ld 4 "ld" 0x00003003 0x0000707F ∧
  RowI .lbu 5 "lbu" 0x00004003 0x0000707F ∧
  RowI .lhu 6 "lhu" 0x00005003 0x0000707F ∧
  RowI .lwu 7 "lwu" 0x00006003 0x0000707F

/-- 41_loads_stores.md R160, R161, R162, R163. -/
def Obligations.StoreRows : Prop :=
  RowS .sb 8 "sb" 0x00000023 0x0000707F ∧
  RowS .sh 9 "sh" 0x00001023 0x0000707F ∧
  RowS .sw 10 "sw" 0x00002023 0x0000707F ∧
  RowS .sd 11 "sd" 0x00003023 0x0000707F

/-- 42_integer_immediate.md R173, R174, R175, R176, R177, R178, R184. -/
def Obligations.ImmediateRows : Prop :=
  RowI .addi 12 "addi" 0x00000013 0x0000707F ∧
  RowI .slti 13 "slti" 0x00002013 0x0000707F ∧
  RowI .sltiu 14 "sltiu" 0x00003013 0x0000707F ∧
  RowI .xori 15 "xori" 0x00004013 0x0000707F ∧
  RowI .ori 16 "ori" 0x00006013 0x0000707F ∧
  RowI .andi 17 "andi" 0x00007013 0x0000707F ∧
  RowI .addiw 23 "addiw" 0x0000001B 0x0000707F

/-- 42_integer_immediate.md R179, R180, R181, R185, R186, R187. -/
def Obligations.ShiftImmediateRows : Prop :=
  RowSh .slli 18 "slli" 0x00001013 0x0000707F ∧
  RowSh .srli 19 "srli" 0x00005013 0x4000707F ∧
  RowSh .srai 20 "srai" 0x40005013 0x4000707F ∧
  RowSh .slliw 24 "slliw" 0x0000101B 0x0000707F ∧
  RowSh .srliw 25 "srliw" 0x0000501B 0x4000707F ∧
  RowSh .sraiw 26 "sraiw" 0x4000501B 0x4000707F

/-- 42_integer_immediate.md R182, R183. -/
def Obligations.UpperImmediateRows : Prop :=
  RowU .lui 21 "lui" 0x00000037 0x0000007F ∧
  RowU .auipc 22 "auipc" 0x00000017 0x0000007F

/-- 43_integer_register.md R202, R203, R204, R205, R206, R207, R208, R209, R210, R211. -/
def Obligations.RegisterRows : Prop :=
  RowR .add 27 "add" 0x00000033 0xFE00707F ∧
  RowR .sub 28 "sub" 0x40000033 0xFE00707F ∧
  RowR .sll 29 "sll" 0x00001033 0xFE00707F ∧
  RowR .slt 30 "slt" 0x00002033 0xFE00707F ∧
  RowR .sltu 31 "sltu" 0x00003033 0xFE00707F ∧
  RowR .xor 32 "xor" 0x00004033 0xFE00707F ∧
  RowR .srl 33 "srl" 0x00005033 0xFE00707F ∧
  RowR .sra 34 "sra" 0x40005033 0xFE00707F ∧
  RowR .or 35 "or" 0x00006033 0xFE00707F ∧
  RowR .and 36 "and" 0x00007033 0xFE00707F

/-- 43_integer_register.md R212, R213, R214, R215, R216, R217, R218, R219. -/
def Obligations.MultiplyDivideRows : Prop :=
  RowR .mul 37 "mul" 0x02000033 0xFE00707F ∧
  RowR .mulh 38 "mulh" 0x02001033 0xFE00707F ∧
  RowR .mulhsu 39 "mulhsu" 0x02002033 0xFE00707F ∧
  RowR .mulhu 40 "mulhu" 0x02003033 0xFE00707F ∧
  RowR .div 41 "div" 0x02004033 0xFE00707F ∧
  RowR .divu 42 "divu" 0x02005033 0xFE00707F ∧
  RowR .rem 43 "rem" 0x02006033 0xFE00707F ∧
  RowR .remu 44 "remu" 0x02007033 0xFE00707F

/-- 43_integer_register.md R220, R221, R222, R223, R224, R225, R226, R227, R228, R229. -/
def Obligations.NarrowRegisterRows : Prop :=
  RowR .addw 45 "addw" 0x0000003B 0xFE00707F ∧
  RowR .subw 46 "subw" 0x4000003B 0xFE00707F ∧
  RowR .sllw 47 "sllw" 0x0000103B 0xFE00707F ∧
  RowR .srlw 48 "srlw" 0x0000503B 0xFE00707F ∧
  RowR .sraw 49 "sraw" 0x4000503B 0xFE00707F ∧
  RowR .mulw 50 "mulw" 0x0200003B 0xFE00707F ∧
  RowR .divw 51 "divw" 0x0200403B 0xFE00707F ∧
  RowR .divuw 52 "divuw" 0x0200503B 0xFE00707F ∧
  RowR .remw 53 "remw" 0x0200603B 0xFE00707F ∧
  RowR .remuw 54 "remuw" 0x0200703B 0xFE00707F

/-- 44_atomic.md R242, R243, R244, R245, R246, R247, R248, R249, R250, R251, R252. -/
def Obligations.AtomicWordRows : Prop :=
  RowAmo .lrW 55 "lr.w" 0x1000202F 0xF800707F ∧
  RowAmo .scW 56 "sc.w" 0x1800202F 0xF800707F ∧
  RowAmo .amoswapW 57 "amoswap.w" 0x0800202F 0xF800707F ∧
  RowAmo .amoaddW 58 "amoadd.w" 0x0000202F 0xF800707F ∧
  RowAmo .amoxorW 59 "amoxor.w" 0x2000202F 0xF800707F ∧
  RowAmo .amoandW 60 "amoand.w" 0x6000202F 0xF800707F ∧
  RowAmo .amoorW 61 "amoor.w" 0x4000202F 0xF800707F ∧
  RowAmo .amominW 62 "amomin.w" 0x8000202F 0xF800707F ∧
  RowAmo .amomaxW 63 "amomax.w" 0xA000202F 0xF800707F ∧
  RowAmo .amominuW 64 "amominu.w" 0xC000202F 0xF800707F ∧
  RowAmo .amomaxuW 65 "amomaxu.w" 0xE000202F 0xF800707F

/-- 44_atomic.md R253, R254, R255, R256, R257, R258, R259, R260, R261, R262, R263. -/
def Obligations.AtomicDoubleRows : Prop :=
  RowAmo .lrD 66 "lr.d" 0x1000302F 0xF800707F ∧
  RowAmo .scD 67 "sc.d" 0x1800302F 0xF800707F ∧
  RowAmo .amoswapD 68 "amoswap.d" 0x0800302F 0xF800707F ∧
  RowAmo .amoaddD 69 "amoadd.d" 0x0000302F 0xF800707F ∧
  RowAmo .amoxorD 70 "amoxor.d" 0x2000302F 0xF800707F ∧
  RowAmo .amoandD 71 "amoand.d" 0x6000302F 0xF800707F ∧
  RowAmo .amoorD 72 "amoor.d" 0x4000302F 0xF800707F ∧
  RowAmo .amominD 73 "amomin.d" 0x8000302F 0xF800707F ∧
  RowAmo .amomaxD 74 "amomax.d" 0xA000302F 0xF800707F ∧
  RowAmo .amominuD 75 "amominu.d" 0xC000302F 0xF800707F ∧
  RowAmo .amomaxuD 76 "amomaxu.d" 0xE000302F 0xF800707F

/-- 45_control_transfer.md R273, R274, R275, R276, R277, R278. -/
def Obligations.BranchRows : Prop :=
  RowB .beq 77 "beq" 0x00000063 0x0000707F ∧
  RowB .bne 78 "bne" 0x00001063 0x0000707F ∧
  RowB .blt 79 "blt" 0x00004063 0x0000707F ∧
  RowB .bge 80 "bge" 0x00005063 0x0000707F ∧
  RowB .bltu 81 "bltu" 0x00006063 0x0000707F ∧
  RowB .bgeu 82 "bgeu" 0x00007063 0x0000707F

/-- 45_control_transfer.md R279, R280. -/
def Obligations.JumpRows : Prop :=
  RowI .jalr 83 "jalr" 0x00000067 0x0000007F ∧
  RowJ .jal 84 "jal" 0x0000006F 0x0000007F

/-- 46_system_misc_mem.md R293, R294, R295, R296, R297, R298, R299. -/
def Obligations.SystemRows : Prop :=
  RowI .ecall 85 "ecall" 0x00000073 0x0000707F ∧
  RowI .csrrw 86 "csrrw" 0x00001073 0x0000707F ∧
  RowI .csrrs 87 "csrrs" 0x00002073 0x0000707F ∧
  RowI .csrrc 88 "csrrc" 0x00003073 0x0000707F ∧
  RowI .csrrwi 89 "csrrwi" 0x00005073 0x0000707F ∧
  RowI .csrrsi 90 "csrrsi" 0x00006073 0x0000707F ∧
  RowI .csrrci 91 "csrrci" 0x00007073 0x0000707F

/-- 46_system_misc_mem.md R300, R301. -/
def Obligations.FenceRows : Prop :=
  RowI .fence 92 "fence" 0x0000000F 0x0000707F ∧
  RowI .fencei 93 "fencei" 0x0000100F 0x0000707F

/-- 30_encoding.md R94, every row of its table. -/
def Obligations.ImmediateExtremes : Prop :=
  ∀ w : Word,
    (Shape.r.immOf w).toInt = 0 ∧
    (-2048 ≤ (Shape.i.immOf w).toInt ∧ (Shape.i.immOf w).toInt ≤ 2047) ∧
    (w.extractLsb' 20 12 = 0x800 → (Shape.i.immOf w).toInt = -2048) ∧
    (w.extractLsb' 20 12 = 0x7FF → (Shape.i.immOf w).toInt = 2047) ∧
    (-2048 ≤ (Shape.s.immOf w).toInt ∧ (Shape.s.immOf w).toInt ≤ 2047) ∧
    (w.extractLsb' 25 7 = 0x40 → w.extractLsb' 7 5 = 0 → (Shape.s.immOf w).toInt = -2048) ∧
    (w.extractLsb' 25 7 = 0x3F → w.extractLsb' 7 5 = 0x1F → (Shape.s.immOf w).toInt = 2047) ∧
    (-4096 ≤ (Shape.b.immOf w).toInt ∧ (Shape.b.immOf w).toInt ≤ 4094 ∧ (Shape.b.immOf w).toNat % 2 = 0) ∧
    (w.extractLsb' 31 1 = 1 → w.extractLsb' 7 1 = 0 → w.extractLsb' 25 6 = 0 → w.extractLsb' 8 4 = 0 →
      (Shape.b.immOf w).toInt = -4096) ∧
    (w.extractLsb' 31 1 = 0 → w.extractLsb' 7 1 = 1 → w.extractLsb' 25 6 = 0x3F → w.extractLsb' 8 4 = 0xF →
      (Shape.b.immOf w).toInt = 4094) ∧
    (-2147483648 ≤ (Shape.u.immOf w).toInt ∧ (Shape.u.immOf w).toInt ≤ 2147479552 ∧
      (Shape.u.immOf w).toNat % 4096 = 0) ∧
    (w.extractLsb' 12 20 = 0x80000 → (Shape.u.immOf w).toInt = -2147483648) ∧
    (w.extractLsb' 12 20 = 0x7FFFF → (Shape.u.immOf w).toInt = 2147479552) ∧
    (-1048576 ≤ (Shape.j.immOf w).toInt ∧ (Shape.j.immOf w).toInt ≤ 1048574 ∧ (Shape.j.immOf w).toNat % 2 = 0) ∧
    (w.extractLsb' 31 1 = 1 → w.extractLsb' 21 10 = 0 → w.extractLsb' 20 1 = 0 → w.extractLsb' 12 8 = 0 →
      (Shape.j.immOf w).toInt = -1048576) ∧
    (w.extractLsb' 31 1 = 0 → w.extractLsb' 21 10 = 0x3FF → w.extractLsb' 20 1 = 1 → w.extractLsb' 12 8 = 0xFF →
      (Shape.j.immOf w).toInt = 1048574) ∧
    (0 ≤ (Shape.amo.immOf w).toInt ∧ (Shape.amo.immOf w).toInt ≤ 3) ∧
    (w.extractLsb' 25 2 = 0 → (Shape.amo.immOf w).toInt = 0) ∧
    (w.extractLsb' 25 2 = 3 → (Shape.amo.immOf w).toInt = 3) ∧
    (0 ≤ (Shape.sh.immOf w).toInt ∧ (Shape.sh.immOf w).toInt ≤ 63) ∧
    (w.extractLsb' 20 6 = 0 → (Shape.sh.immOf w).toInt = 0) ∧
    (w.extractLsb' 20 6 = 0x3F → (Shape.sh.immOf w).toInt = 63)

/-- 10_state.md R38 (a) to (e). -/
def Obligations.EveryDecodedRecordHasItsShape : Prop :=
  ∀ (s t : State) (q : DecodeReq) (rest : List Request) (n : Nat) (r : Record), s.pending = .decode q :: rest →
    step s = .next t → t.decoded = some (.ok n r) →
    n = 4 ∧ DecodedRecord r ∧
      (∃ m : Mnemonic, r.mnemonic = m.code ∧
        r.rd = (if m.shape.hasRd then some (field5 (wordAt (inByte s q)) 7) else none) ∧
        r.rs1 = (if m.shape.hasRs1 then some (field5 (wordAt (inByte s q)) 15) else none) ∧
        r.rs2 = (if m.shape.hasRs2 then some (field5 (wordAt (inByte s q)) 20) else none) ∧
        r.imm = m.shape.immOf (wordAt (inByte s q))) ∧
      r.rs3 = none ∧ 1 ≤ r.mnemonic.toNat ∧ r.mnemonic.toNat ≤ 93 ∧
      ([r.rd, r.rs1, r.rs2, r.rs3].filter Option.isSome).length ≤ 3 ∧
      (∀ m : Mnemonic, r.mnemonic = m.code → m.shape = .r → r.imm = 0)

/-- The frame of all 93 meanings (41_loads_stores.md R152, 42_integer_immediate.md R188, 43_integer_register.md R230,
44_atomic.md R264, 45_control_transfer.md R272, 46_system_misc_mem.md R292). -/
def Obligations.MeaningsTouchOnlyTheOutputs : Prop :=
  ∀ (i : Instr) (s t : State), exec i s = .next t →
    (∀ a, t.inMem.read a = s.inMem.read a) ∧ (∀ a, t.outMem.read a = s.outMem.read a) ∧ t.mnemRom = s.mnemRom ∧
      t.nameRom = s.nameRom ∧ t.pending = s.pending ∧ t.draws = s.draws

/-- What is left unchanged is 40_decode_pipeline.md R136. That the request leaves the queue (log entry 1) and that `draws` advances
by one (log entry 9) are the model's choices and no rule of spec/. -/
def Obligations.DecodeHasNoSideEffects : Prop :=
  ∀ (s : State) (q : DecodeReq) (rest : List Request), s.pending = .decode q :: rest → q.changes = [] →
    q.overlap = [] →
    ∃ t a, step s = .next t ∧ t = { s with pending := rest, draws := s.draws + 1, decoded := some a }

/-- 48_formatter.md R321 to R323, R327, where the caller shares no cell (`q.overlap = []`). For a caller that shares some cells,
what is said of the others is the model's choice (log entry 6) and no rule of spec/: 70_reset_and_hazards.md R387 speaks of the
overlapped cells only. That every cell of the buffer is there and writable is log entry 18. -/
def Obligations.FormatWritesATerminatedPrefix : Prop :=
  ∀ (s : State) (q : FormatReq) (rest : List Request), s.pending = .format q :: rest →
    ∃ t, step s = .next t ∧
      (q.cap = 0 → ∀ a, t.outMem.read a = s.outMem.read a) ∧
      (0 < q.cap → ∀ S k, S = fullText s.nameRom (s.recordFor q.source) → k = min S.length (q.cap - 1) →
        (∀ i, (h : i < S.length) → i < k → ¬Shared q (q.base + i) → t.outMem.read (q.base + i) = some S[i]) ∧
        (¬Shared q (q.base + k) → t.outMem.read (q.base + k) = some 0x00) ∧
        (∀ a, a < q.base ∨ q.base + k < a → ¬Shared q a → t.outMem.read a = s.outMem.read a))

/-- 48_formatter.md R311. -/
def Obligations.FormatWithCapacityZeroWritesNothing : Prop :=
  ∀ (s : State) (q : FormatReq) (rest : List Request), s.pending = .format q :: rest → q.cap = 0 →
    ∃ t, step s = .next t ∧ t.outMem = s.outMem

/-- 10_state.md R37, 20_memory.md R51, R58: the Formatter only writes its output buffer and never changes its record.
That the Decoder's answer outlives a format, `t.decoded = s.decoded`, is the model's choice (log entry 8) and no rule of spec/:
70_reset_and_hazards.md R382 defines outputs only as the answer to a request. The queue, `t.pending = rest`, is log entry 1. -/
def Obligations.FormatTouchesOnlyTheOutputBuffer : Prop :=
  ∀ (s : State) (q : FormatReq) (rest : List Request), s.pending = .format q :: rest →
    ∃ t, step s = .next t ∧ t.inMem = s.inMem ∧ t.mnemRom = s.mnemRom ∧ t.nameRom = s.nameRom ∧
      t.decoded = s.decoded ∧ t.pending = rest ∧
      (∀ a, a < q.base ∨ q.base + q.cap ≤ a → t.outMem.read a = s.outMem.read a)

/-- 48_formatter.md R312 to R314; which codes have no token is R314's. -/
def Obligations.UnknownCodesPrintThePlaceholder : Prop :=
  (∀ (rom : NameRom) (r : Record), tokenOf rom r.mnemonic = none → fullText rom r = ascii "<invalid>") ∧
    (∀ code : MnemCode, tokenOf nameRom code = none ↔ code = 0 ∨ 94 ≤ code.toNat) ∧
    (∀ r : Record, r.mnemonic = 0 ∨ 94 ≤ r.mnemonic.toNat → fullText nameRom r = ascii "<invalid>") ∧
    (ascii "<invalid>").length = 9 ∧
    (∀ cap, 0 < cap → boundedText cap (ascii "<invalid>") = (ascii "<invalid>").take (cap - 1) ++ [0x00])

/-- 48_formatter.md R316, R319, R320. -/
def Obligations.DecimalTextReadsBack : Prop :=
  (∀ v : Imm, 0 ≤ v.toInt → IsDecimal (sdec v) ∧ (readDec (sdec v) : Int) = v.toInt) ∧
    (∀ v : Imm, v.toInt < 0 → ∃ cs, sdec v = 0x2D :: cs ∧ IsDecimal cs ∧ -(readDec cs : Int) = v.toInt) ∧
    (∀ n : Reg, IsDecimal (dec n.val) ∧ readDec (dec n.val) = n.val) ∧
    sdec 0x80000000 = ascii "-2147483648"

/-- 48_formatter.md R315, R318, R326, R328. -/
def Obligations.FullTextOfAnyRecord : Prop :=
  ∀ (rom : NameRom) (r : Record),
    (tokenOf rom r.mnemonic = none → fullText rom r = ascii "<invalid>") ∧
    (∀ token, tokenOf rom r.mnemonic = some token →
      fullText rom r = token ++ ([r.rd, r.rs1, r.rs2, r.rs3].filterMap id).flatMap rText ++ iText r.imm)

/-- 48_formatter.md R330. -/
def Obligations.TextLengthsAreBounded : Prop :=
  (∀ r : Record, (fullText nameRom r).length ≤ 37) ∧
    (∃ r : Record, (fullText nameRom r).length = 37) ∧
    (∀ (r : Record) (cap : Nat), 38 ≤ cap → boundedText cap (fullText nameRom r) = fullText nameRom r ++ [0x00]) ∧
    (∀ r : Record, DecodedRecord r → (fullText nameRom r).length ≤ 23) ∧
    (∃ r : Record, DecodedRecord r ∧ (fullText nameRom r).length = 23) ∧
    (∀ (r : Record) (cap : Nat), DecodedRecord r → 24 ≤ cap →
      boundedText cap (fullText nameRom r) = fullText nameRom r ++ [0x00])

/-- 48_formatter.md R324. -/
def Obligations.TextUsesOnlyTheListedCharacters : Prop :=
  (∀ r : Record, ∀ c ∈ fullText nameRom r, IsTextChar c) ∧
    (∀ (r : Record) (cap : Nat), ∀ c ∈ boundedText cap (fullText nameRom r), IsTextChar c ∨ c = 0x00)

/-- 48_formatter.md R331. -/
def Obligations.FormatIgnoresOldContents : Prop :=
  ∀ (s s' : State) (r : Record) (cap base base' : Nat) (rest rest' : List Request), s.nameRom = s'.nameRom →
    s.pending = .format { source := .given r, base := base, cap := cap } :: rest →
    s'.pending = .format { source := .given r, base := base', cap := cap } :: rest' →
    ∃ t t' k, step s = .next t ∧ step s' = .next t' ∧ k = min (fullText s.nameRom r).length (cap - 1) ∧
      (∀ i, 0 < cap → i ≤ k → t.outMem.read (base + i) = t'.outMem.read (base' + i)) ∧
      (∀ a, cap = 0 ∨ a < base ∨ base + k < a → t.outMem.read a = s.outMem.read a) ∧
      (∀ a, cap = 0 ∨ a < base' ∨ base' + k < a → t'.outMem.read a = s'.outMem.read a)

/-- 40_decode_pipeline.md R133, 48_formatter.md R325, 60_exceptions.md R357; the idle step is log entry 2. -/
def Obligations.EveryStepAnswers : Prop :=
  ∀ s : State, ∃ t, step s = .next t

/-- That every request terminates, and the number of cells, are 70_reset_and_hazards.md R389. That one step per pending request
empties the queue rests on the model's own queue (log entry 1, DESIGN CHOICE) and on its one step per request (log entry 14,
DEDUCED from R388). -/
def Obligations.EveryRequestTerminates : Prop :=
  (∀ s : State, ∃ t, Runs s.pending.length s t ∧ t.pending = []) ∧
    (∀ (r : Record) (cap : Nat), (boundedText cap (fullText nameRom r)).length ≤ min 38 cap)

/-- 10_state.md R26, R27, 70_reset_and_hazards.md R381. -/
def Obligations.RomsNeverChange : Prop :=
  ∀ s t : State, step s = .next t → t.mnemRom = s.mnemRom ∧ t.nameRom = s.nameRom

/-- 70_reset_and_hazards.md R386; nothing rests on the value of Config.freeChoice or Config.freeByte. -/
def Obligations.UnstableDecodeIsSomeMix : Prop :=
  ∀ (s : State) (q : DecodeReq) (rest : List Request), s.pending = .decode q :: rest →
    ∃ (f : Nat → Byte) (t : State), step s = .next t ∧ Answers (decode s.mnemRom q.inLen f) t.decoded ∧
      ∀ i, i ∉ q.overlap → s.inMem.read (q.base + i) = some (f i) ∨ (i, f i) ∈ q.changes ∨
        s.inMem.read (q.base + i) = none

/-- 20_memory.md R61, for formats that bring their own record (DecodeThenFormatPrintsTheRow has those of the decoded record).
That an interleaving is an order of the queue, each request being one indivisible step (70_reset_and_hazards.md R388), is the
model's inference (log entry 15, DEDUCED), and the queue its choice (log entry 1). -/
def Obligations.CallsOnDisjointBuffersAreIndependent : Prop :=
  (∀ (s : State) (before after : List Request) (p : FormatReq),
      (∀ r ∈ before ++ .format p :: after, Clean s r) → (∀ r ∈ before ++ after, Apart p r) →
      ∃ t u, Runs (before.length + 1 + after.length) (withRequests s (before ++ .format p :: after)) t ∧
        Runs 1 (withRequests s [.format p]) u ∧
        ∀ i, i < p.cap → t.outMem.read (p.base + i) = u.outMem.read (p.base + i)) ∧
    (∀ (s : State) (before : List Request) (q : DecodeReq),
      (∀ r ∈ before ++ [.decode q], Clean s r) →
      ∃ t u, Runs (before.length + 1) (withRequests s (before ++ [.decode q])) t ∧
        Runs 1 (withRequests s [.decode q]) u ∧ t.decoded = u.decoded)

/-- 20_memory.md R59. -/
def Obligations.RepeatingARequestChangesNothing : Prop :=
  ∀ (s : State) (r : Request), Clean s r →
    ∃ t u, Runs 1 (withRequests s [r]) t ∧ Runs 2 (withRequests s [r, r]) u ∧ u.decoded = t.decoded ∧
      (∀ a, u.outMem.read a = t.outMem.read a) ∧ (∀ a, u.inMem.read a = t.inMem.read a) ∧
      (∀ a, t.inMem.read a = s.inMem.read a) ∧
      ∀ m : Memory, ∃ v, Runs 1 (withRequests { s with outMem := m } [r]) v ∧ v.decoded = t.decoded ∧
        ∀ a, v.outMem.read a = t.outMem.read a ∨
          (t.outMem.read a = s.outMem.read a ∧ v.outMem.read a = m.read a)

/-- 00_scope.md R2 and 70_reset_and_hazards.md R385: the two units used in sequence; the printed cells are 48_formatter.md R321.
That the answer is still on the Decoder's outputs after the format, `t.decoded = some (.ok 4 r)`, is the model's choice (log
entry 8) and no rule of spec/. The queue, `t.pending = rest`, is log entry 1. -/
def Obligations.DecodeThenFormatPrintsTheRow : Prop :=
  ∀ (s : State) (q : DecodeReq) (base cap : Nat) (rest : List Request) (i : Instr) (r : Record),
    s.pending = .decode q :: .format { source := .decoded, base := base, cap := cap } :: rest →
    decode s.mnemRom q.inLen (inByte s q) = .ok i →
    (∀ u : State, exec i u = .next { u with decoded := some (.ok 4 r) }) → 0 < cap →
    ∃ t, Runs 2 s t ∧ t.decoded = some (.ok 4 r) ∧ t.pending = rest ∧
      (∀ j, (h : j < (fullText s.nameRom r).length) → j < cap - 1 →
        t.outMem.read (base + j) = some (fullText s.nameRom r)[j]) ∧
      t.outMem.read (base + min (fullText s.nameRom r).length (cap - 1)) = some 0x00

/-- The text is a faithful rendering (00_scope.md R1, 48_formatter.md R314, R326). An inference of the model, no rule of spec/. -/
def Obligations.TextDeterminesTheInstruction : Prop :=
  ∀ (i j : Instr) (s t u : State) (r r' : Record), i.wellFormed = true → j.wellFormed = true →
    exec i s = .next t → exec j s = .next u → t.decoded = some (.ok 4 r) → u.decoded = some (.ok 4 r') →
    fullText nameRom r = fullText nameRom r' → i = j

/-- 10_state.md R30, R32, R34; the place of the valid bit is log entry 13. -/
def Obligations.PortCodes : Prop :=
  (∀ r : Record, (Answer.ok 4 r).status = 0 ∧ (Answer.ok 4 r).consumed = some 4) ∧
    Answer.partialInput.status = 1 ∧ Answer.undefined.status = 2 ∧ (∀ a : Answer, a.status ≠ 3) ∧
    regBus none = 0 ∧
    (∀ n : Reg, (regBus (some n)).extractLsb' 5 1 = 1 ∧ ((regBus (some n)).extractLsb' 0 5).toNat = n.val) ∧
    (∀ a b : Option Reg, regBus a = regBus b → a = b)

/-- A sanity statement: 41_loads_stores.md R153, R160; 42_integer_immediate.md R173, R181, R182; 43_integer_register.md R202;
44_atomic.md R245; 45_control_transfer.md R273, R279, R280; 46_system_misc_mem.md R293, R300. -/
def Obligations.WordsOfTheSpecDecode : Prop :=
  decodeTableWord 32 0b11111111100100110000001010000011 = some (.lb 5 6 (-7)) ∧
    decodeTableWord 32 0b11111110011100110000110000100011 = some (.sb 6 7 (-8)) ∧
    decodeTableWord 32 0b00000000010100010000000010010011 = some (.addi 1 2 5) ∧
    decodeTableWord 32 0b01000000110100110101001010010011 = some (.srai 5 6 13) ∧
    decodeTableWord 32 0b10101011110011011110001010110111 = some (.lui 5 0xABCDE000) ∧
    decodeTableWord 32 0b00000000011100110000001010110011 = some (.add 5 6 7) ∧
    decodeTableWord 32 0b00000110011100110010001010101111 = some (.amoaddW 5 6 7 3) ∧
    decodeTableWord 32 0b11111110011100110000100011100011 = some (.beq 6 7 (-16)) ∧
    decodeTableWord 32 0b11111111100100110000001011100111 = some (.jalr 5 6 (-7)) ∧
    decodeTableWord 32 0b00000000000100000000001011101111 = some (.jal 5 2048) ∧
    decodeTableWord 32 0b00000000000100000000000001110011 = some (.ecall 0 0 1) ∧
    decodeTableWord 32 0b00001111111100000000000000001111 = some (.fence 0 0 255)
end

