-- ==== Sys2Proof/Laws/Decode.lean ====
section
/-! SUPPORT. What a decode can find, and that the ROM lookup answers with a row of the table. -/

namespace Sys2Proof

/-- The lookup answers the mnemonic of a row that the key selects. -/
theorem romLookup_eq_some {rom : MnemRom} {op : BitVec 5} {f3 : BitVec 3} {f7 : BitVec 7} {m : Mnemonic}
    (h : romLookup rom op f3 f7 = some m) : ∃ row ∈ rom, row.selects op f3 f7 = true ∧ row.mnemonic = m := by
  simp only [romLookup, Option.map_eq_some_iff] at h
  obtain ⟨row, hf, hm⟩ := h
  exact ⟨row, List.mem_of_find?_eq_some hf,
    List.find?_some (p := fun row : MnemRow => row.selects op f3 f7) hf, hm⟩

/-- The lookup answers NONE when no row is selected. -/
theorem romLookup_eq_none {rom : MnemRom} {op : BitVec 5} {f3 : BitVec 3} {f7 : BitVec 7} :
    romLookup rom op f3 f7 = none ↔ ∀ row ∈ rom, row.selects op f3 f7 = false := by
  simp [romLookup, List.find?_eq_none]

/-- A decode that finds an instruction has passed every test, and the instruction is the selected row's. -/
theorem decode_eq_ok {rom : MnemRom} {n : Nat} {f : Nat → Byte} {i : Instr} (h : decode rom n f = .ok i) :
    4 ≤ n ∧ (f 0).extractLsb' 0 2 = 0b11 ∧ (f 0).extractLsb' 2 3 ≠ 0b111 ∧
      ∃ m, romLookup rom (opcodeOf (assemble (f 0) (f 1) (f 2) (f 3))) (funct3Of (assemble (f 0) (f 1) (f 2) (f 3)))
          (funct7Of (assemble (f 0) (f 1) (f 2) (f 3))) = some m ∧
        i = m.instr (assemble (f 0) (f 1) (f 2) (f 3)) := by
  simp only [decode] at h
  split at h
  · cases h
  split at h
  · cases h
  split at h
  · cases h
  split at h
  · cases h
  rename_i _ h0 h2 hn
  split at h
  · cases h
  · rename_i m hm
    exact ⟨by omega, not_not.1 h0, h2, m, hm, (by simpa using h.symm)⟩

end Sys2Proof
end

