-- ==== Sys2Proof/Laws/Encode.lean ====
section
/-! SUPPORT. The low seven bits of every layout: the row's opcode and `11` (30_encoding.md R81). -/

namespace Sys2Proof

/-- A word that ends in an opcode and `11` has them as its low seven bits. -/
theorem low7_append {n : Nat} (hi : BitVec n) (op : BitVec 5) :
    (hi ++ op ++ 0b11#2).extractLsb' 0 7 = op ++ 0b11#2 := by
  change BitVec.extractLsb' 0 (5 + 2) (hi ++ op ++ 0b11#2) = op ++ 0b11#2
  apply BitVec.eq_of_getLsbD_eq
  intro i hlt
  simp only [BitVec.getLsbD_extractLsb', BitVec.getLsbD_append, Nat.zero_add]
  split
  · simp [hlt]
  · have h5 : i - 2 < 5 := by omega
    simp [hlt, h5]

theorem encR_low (f7 f3 op rd rs1 rs2) : (encR f7 f3 op rd rs1 rs2).extractLsb' 0 7 = op ++ 0b11#2 :=
  low7_append _ _
theorem encI_low (f3 op rd rs1 imm) : (encI f3 op rd rs1 imm).extractLsb' 0 7 = op ++ 0b11#2 := low7_append _ _
theorem encS_low (f3 op rs1 rs2 imm) : (encS f3 op rs1 rs2 imm).extractLsb' 0 7 = op ++ 0b11#2 := low7_append _ _
theorem encB_low (f3 op rs1 rs2 imm) : (encB f3 op rs1 rs2 imm).extractLsb' 0 7 = op ++ 0b11#2 := low7_append _ _
theorem encU_low (op rd imm) : (encU op rd imm).extractLsb' 0 7 = op ++ 0b11#2 := low7_append _ _
theorem encJ_low (op rd imm) : (encJ op rd imm).extractLsb' 0 7 = op ++ 0b11#2 := low7_append _ _
theorem encAmo_low (f5 f3 op rd rs1 rs2 imm) :
    (encAmo f5 f3 op rd rs1 rs2 imm).extractLsb' 0 7 = op ++ 0b11#2 := low7_append _ _
theorem encSh_low (hi f3 op rd rs1 imm) : (encSh hi f3 op rd rs1 imm).extractLsb' 0 7 = op ++ 0b11#2 :=
  low7_append _ _

/-- The opcode field and both length fields are read from the low seven bits. -/
theorem fields_of_low7 (w : Word) (op : BitVec 5) (h : w.extractLsb' 0 7 = op ++ 0b11#2) :
    opcodeOf w = op ∧ w.extractLsb' 0 2 = 0b11#2 ∧ w.extractLsb' 2 3 = op.extractLsb' 0 3 := by
  have e1 : opcodeOf w = (w.extractLsb' 0 7).extractLsb' 2 5 := by ext i hi; simp [opcodeOf]
  have e2 : w.extractLsb' 0 2 = (w.extractLsb' 0 7).extractLsb' 0 2 := by ext i hi; simp
  have e3 : w.extractLsb' 2 3 = (w.extractLsb' 0 7).extractLsb' 2 3 := by ext i hi; simp
  rw [e1, e2, e3, h]
  clear e1 e2 e3 h
  revert op
  decide

end Sys2Proof
end

