-- ==== Sys2Proof/Laws/State.lean ====
section
/-! SUPPORT. One lemma per field and update of State, so that no proof unfolds a record update. -/

namespace Sys2Proof.Machine

section
variable (s : State) (a : Answer) (r : Record) (q : DecodeReq) (f : FormatReq) (rest : List Request) (w : Word)
  (why : UndefinedReason)

/-! ### answer, deliver and the two diagnoses write `decoded` alone -/

@[simp] theorem State.answer_decoded : (s.answer a).decoded = some a := rfl
@[simp] theorem State.answer_mnemRom : (s.answer a).mnemRom = s.mnemRom := rfl
@[simp] theorem State.answer_nameRom : (s.answer a).nameRom = s.nameRom := rfl
@[simp] theorem State.answer_inMem : (s.answer a).inMem = s.inMem := rfl
@[simp] theorem State.answer_outMem : (s.answer a).outMem = s.outMem := rfl
@[simp] theorem State.answer_pending : (s.answer a).pending = s.pending := rfl
@[simp] theorem State.answer_draws : (s.answer a).draws = s.draws := rfl

theorem State.deliver_eq : s.deliver r = s.answer (.ok 4 r) := rfl
@[simp] theorem State.deliver_decoded : (s.deliver r).decoded = some (.ok 4 r) := rfl
@[simp] theorem State.deliver_mnemRom : (s.deliver r).mnemRom = s.mnemRom := rfl
@[simp] theorem State.deliver_nameRom : (s.deliver r).nameRom = s.nameRom := rfl
@[simp] theorem State.deliver_inMem : (s.deliver r).inMem = s.inMem := rfl
@[simp] theorem State.deliver_outMem : (s.deliver r).outMem = s.outMem := rfl
@[simp] theorem State.deliver_pending : (s.deliver r).pending = s.pending := rfl
@[simp] theorem State.deliver_draws : (s.deliver r).draws = s.draws := rfl

theorem State.diagnosePartial_eq : s.diagnosePartial = s.answer .partialInput := rfl
theorem State.diagnoseUndefined_eq : s.diagnoseUndefined why = s.answer .undefined := rfl
@[simp] theorem State.diagnosePartial_decoded : s.diagnosePartial.decoded = some .partialInput := rfl
@[simp] theorem State.diagnosePartial_mnemRom : s.diagnosePartial.mnemRom = s.mnemRom := rfl
@[simp] theorem State.diagnosePartial_nameRom : s.diagnosePartial.nameRom = s.nameRom := rfl
@[simp] theorem State.diagnosePartial_inMem : s.diagnosePartial.inMem = s.inMem := rfl
@[simp] theorem State.diagnosePartial_outMem : s.diagnosePartial.outMem = s.outMem := rfl
@[simp] theorem State.diagnosePartial_pending : s.diagnosePartial.pending = s.pending := rfl
@[simp] theorem State.diagnosePartial_draws : s.diagnosePartial.draws = s.draws := rfl
@[simp] theorem State.diagnoseUndefined_decoded : (s.diagnoseUndefined why).decoded = some .undefined := rfl
@[simp] theorem State.diagnoseUndefined_mnemRom : (s.diagnoseUndefined why).mnemRom = s.mnemRom := rfl
@[simp] theorem State.diagnoseUndefined_nameRom : (s.diagnoseUndefined why).nameRom = s.nameRom := rfl
@[simp] theorem State.diagnoseUndefined_inMem : (s.diagnoseUndefined why).inMem = s.inMem := rfl
@[simp] theorem State.diagnoseUndefined_outMem : (s.diagnoseUndefined why).outMem = s.outMem := rfl
@[simp] theorem State.diagnoseUndefined_pending : (s.diagnoseUndefined why).pending = s.pending := rfl
@[simp] theorem State.diagnoseUndefined_draws : (s.diagnoseUndefined why).draws = s.draws := rfl

/-! ### served -/

@[simp] theorem State.served_mnemRom : (s.served rest).mnemRom = s.mnemRom := rfl
@[simp] theorem State.served_nameRom : (s.served rest).nameRom = s.nameRom := rfl
@[simp] theorem State.served_inMem : (s.served rest).inMem = s.inMem := rfl
@[simp] theorem State.served_outMem : (s.served rest).outMem = s.outMem := rfl
@[simp] theorem State.served_pending : (s.served rest).pending = rest := rfl
@[simp] theorem State.served_decoded : (s.served rest).decoded = s.decoded := rfl
@[simp] theorem State.served_draws : (s.served rest).draws = s.draws + 1 := rfl

/-! ### afterDecode -/

@[simp] theorem State.afterDecode_mnemRom : (s.afterDecode q rest).mnemRom = s.mnemRom := rfl
@[simp] theorem State.afterDecode_nameRom : (s.afterDecode q rest).nameRom = s.nameRom := rfl
theorem State.afterDecode_inMem : (s.afterDecode q rest).inMem =
    (s.inMem.writeCells q.landed).writeCells (freeCells s.draws q.base q.inLen q.overlap) := rfl
@[simp] theorem State.afterDecode_outMem : (s.afterDecode q rest).outMem = s.outMem := rfl
@[simp] theorem State.afterDecode_pending : (s.afterDecode q rest).pending = rest := rfl
@[simp] theorem State.afterDecode_decoded : (s.afterDecode q rest).decoded = s.decoded := rfl
@[simp] theorem State.afterDecode_draws : (s.afterDecode q rest).draws = s.draws + 1 := rfl

/-- A caller that keeps its duties finds its input storage as it was. -/
theorem State.afterDecode_inMem_stable (hc : q.changes = []) (ho : q.overlap = []) :
    (s.afterDecode q rest).inMem = s.inMem := by
  simp [State.afterDecode_inMem, DecodeReq.landed, freeCells, hc, ho, Memory.writeCells]

/-! ### afterFormat -/

@[simp] theorem State.afterFormat_mnemRom : (s.afterFormat f rest).mnemRom = s.mnemRom := rfl
@[simp] theorem State.afterFormat_nameRom : (s.afterFormat f rest).nameRom = s.nameRom := rfl
@[simp] theorem State.afterFormat_inMem : (s.afterFormat f rest).inMem = s.inMem := rfl
theorem State.afterFormat_outMem : (s.afterFormat f rest).outMem =
    (s.outMem.writeRange f.base (boundedText f.cap (fullText s.nameRom (s.recordFor f.source)))).writeCells
      (freeCells s.draws f.base f.cap f.overlap) := rfl
@[simp] theorem State.afterFormat_pending : (s.afterFormat f rest).pending = rest := rfl
@[simp] theorem State.afterFormat_decoded : (s.afterFormat f rest).decoded = s.decoded := rfl
@[simp] theorem State.afterFormat_draws : (s.afterFormat f rest).draws = s.draws + 1 := rfl

/-! ### placeWord -/

@[simp] theorem State.placeWord_mnemRom : (s.placeWord w).mnemRom = s.mnemRom := rfl
@[simp] theorem State.placeWord_nameRom : (s.placeWord w).nameRom = s.nameRom := rfl
@[simp] theorem State.placeWord_inMem : (s.placeWord w).inMem = s.inMem.writeRange 0 (wordBytes w) := rfl
@[simp] theorem State.placeWord_outMem : (s.placeWord w).outMem = s.outMem := rfl
@[simp] theorem State.placeWord_pending :
    (s.placeWord w).pending = .decode { base := 0, inLen := 4 } :: s.pending := rfl
@[simp] theorem State.placeWord_decoded : (s.placeWord w).decoded = s.decoded := rfl
@[simp] theorem State.placeWord_draws : (s.placeWord w).draws = s.draws := rfl

end

end Sys2Proof.Machine
end

