-- ==== Sys2Proof/Laws/Exec.lean ====
section
/-! SUPPORT. What a meaning can do and what a step can do, said once. -/

namespace Sys2Proof.Machine

/-- Every meaning answers a next state in which a record has been delivered, and does nothing else. -/
theorem exec_delivers (i : Instr) (s : State) : ∃ r, exec i s = .next (s.deliver r) := by
  cases i <;> exact ⟨_, rfl⟩

/-- Everything an answered step can have done. -/
theorem step_cases {s t : State} (h : step s = .next t) :
    (s.pending = [] ∧ t = s) ∨
    (∃ q rest, s.pending = .format q :: rest ∧ t = s.afterFormat q rest) ∨
    (∃ q rest, s.pending = .decode q :: rest ∧ fetch s q = .partialInput ∧
      t = (s.afterDecode q rest).answer .partialInput) ∨
    (∃ q rest why, s.pending = .decode q :: rest ∧ fetch s q = .undefinedWord why ∧
      t = (s.afterDecode q rest).answer .undefined) ∨
    (∃ q rest i, s.pending = .decode q :: rest ∧ fetch s q = .ok i ∧
      exec i (s.afterDecode q rest) = .next t) := by
  unfold step at h
  split at h
  · rename_i hp
    exact .inl ⟨hp, by simpa using h.symm⟩
  · rename_i q rest hp
    exact .inr (.inl ⟨q, rest, hp, by simpa using h.symm⟩)
  · rename_i q rest hp
    split at h
    · rename_i i hf
      exact .inr (.inr (.inr (.inr ⟨q, rest, i, hp, hf, h⟩)))
    · rename_i hf
      exact .inr (.inr (.inl ⟨q, rest, hp, hf, by simpa [State.diagnosePartial_eq] using h.symm⟩))
    · rename_i why hf
      exact .inr (.inr (.inr (.inl ⟨q, rest, why, hp, hf, by simpa [State.diagnoseUndefined_eq] using h.symm⟩)))

/-- A step with no request pending. -/
theorem step_idle {s : State} (h : s.pending = []) : step s = .next s := by
  simp [step, h]

/-- A step that serves a format. -/
theorem step_format {s : State} {q : FormatReq} {rest : List Request} (h : s.pending = .format q :: rest) :
    step s = .next (s.afterFormat q rest) := by
  simp [step, h]

/-- Which byte a decode reads, case by case. -/
theorem inByte_stable (s : State) (q : DecodeReq) (i : Nat) (hc : q.changes = []) (ho : q.overlap = []) :
    inByte s q i = suppliedByte s q i := by
  simp [inByte, DecodeReq.newBytes, hc, ho]

theorem suppliedByte_present {s : State} {q : DecodeReq} {i : Nat} {b : Byte}
    (h : s.inMem.read (q.base + i) = some b) : suppliedByte s q i = b := by
  simp [suppliedByte, h]

end Sys2Proof.Machine
end

