-- ==== Sys2Proof/Laws/Format.lean ====
section
/-! SUPPORT. The bounded writer's length, and its characters. -/

namespace Sys2Proof.Machine

@[simp] theorem boundedText_zero (text : List Byte) : boundedText 0 text = [] := rfl

/-- The writer fills one cell more than the text it keeps. -/
theorem boundedText_length (cap : Nat) (text : List Byte) (h : 0 < cap) :
    (boundedText cap text).length = min text.length (cap - 1) + 1 := by
  simp [boundedText, Nat.pos_iff_ne_zero.1 h, Nat.min_comm]

/-- It never fills more cells than the capacity. -/
theorem boundedText_length_le (cap : Nat) (text : List Byte) : (boundedText cap text).length ≤ cap := by
  rcases Nat.eq_zero_or_pos cap with rfl | h
  · simp
  · rw [boundedText_length cap text h]; omega

@[simp] theorem regText_none : regText none = [] := rfl
@[simp] theorem immText_zero : immText 0 = [] := rfl

end Sys2Proof.Machine
end

