-- ==== Sys2Proof/Laws/Memory.lean ====
section
/-! SUPPORT. The laws of the caller's cells: read after write, frames, the canonical form, and that equal reads of
canonical memories are equal data. -/

namespace Sys2Proof.Machine

@[simp] theorem Memory.read_nil (a : Nat) : Memory.read [] a = none := rfl

theorem Memory.read_cons (c : Host.Cell) (m : Memory) (a : Nat) :
    Memory.read (c :: m) a = if c.1 = a then some c.2 else Memory.read m a := rfl

/-- A cell reads back the byte written to it. -/
@[simp] theorem Memory.read_write_same (m : Memory) (a : Nat) (b : Byte) : (m.write a b).read a = some b := by
  induction m with
  | nil => simp [Memory.write, Memory.read]
  | cons c m ih =>
    obtain ⟨k, v⟩ := c
    simp only [Memory.write]
    split
    · simp [Memory.read]
    · split
      · simp [Memory.read]
      · rename_i _ h
        simp [Memory.read, Ne.symm h, ih]

/-- A write leaves every other cell alone. -/
theorem Memory.read_write_other (m : Memory) {a a' : Nat} (b : Byte) (h : a' ≠ a) :
    (m.write a b).read a' = m.read a' := by
  induction m with
  | nil => simp [Memory.write, Memory.read, Memory.unlisted, Ne.symm h]
  | cons c m ih =>
    obtain ⟨k, v⟩ := c
    simp only [Memory.write]
    split
    · simp [Memory.read, Ne.symm h]
    · split
      · rename_i _ hk
        subst hk
        simp [Memory.read, Ne.symm h]
      · simp [Memory.read, ih]

/-- Cells below the range, or at its end and above, keep their value. -/
theorem Memory.read_writeRange_outside (bs : List Byte) (m : Memory) (a a' : Nat)
    (h : a' < a ∨ a + bs.length ≤ a') : (m.writeRange a bs).read a' = m.read a' := by
  induction bs generalizing m a with
  | nil => rfl
  | cons b bs ih =>
    simp only [List.length_cons] at h
    rw [Memory.writeRange, ih _ _ (by omega), Memory.read_write_other _ _ (by omega)]

/-- Cell `i` of the range holds byte `i` of the list. -/
theorem Memory.read_writeRange_inside (bs : List Byte) (m : Memory) (a i : Nat) (h : i < bs.length) :
    (m.writeRange a bs).read (a + i) = some bs[i] := by
  induction bs generalizing m a i with
  | nil => simp at h
  | cons b bs ih =>
    rw [Memory.writeRange]
    cases i with
    | zero => rw [Memory.read_writeRange_outside _ _ _ _ (by omega)]; simp
    | succ i =>
      have := ih (m.write a b) (a + 1) i (by simpa using h)
      simpa [Nat.add_assoc, Nat.add_comm 1 i] using this

/-- A cell that no listed write touches keeps its value. -/
theorem Memory.read_writeCells_outside (cs : List Host.Cell) (m : Memory) (a : Nat) (h : ∀ c ∈ cs, c.1 ≠ a) :
    (m.writeCells cs).read a = m.read a := by
  induction cs generalizing m with
  | nil => rfl
  | cons c cs ih =>
    rw [Memory.writeCells, ih _ fun d hd => h d (List.mem_cons_of_mem _ hd)]
    exact Memory.read_write_other _ _ (h c (List.mem_cons_self ..)).symm

/-! ### The canonical form -/

/-- Canonical, and every address above `a`. -/
theorem Memory.wf_cons (c : Host.Cell) (m : Memory) :
    Memory.wf (c :: m) = true ↔ (∀ d ∈ m.head?, c.1 < d.1) ∧ Memory.wf m = true := by
  cases m with
  | nil => simp [Memory.wf]
  | cons d m => simp [Memory.wf]

theorem Memory.head_write (m : Memory) (a : Nat) (b : Byte) :
    ∀ d ∈ (m.write a b).head?, d.1 = a ∨ d ∈ m.head? := by
  cases m with
  | nil => simp [Memory.write]
  | cons c m =>
    obtain ⟨k, v⟩ := c
    simp only [Memory.write]
    split
    · simp
    · split <;> simp

/-- A write keeps the canonical form. -/
theorem Memory.wf_write (m : Memory) (a : Nat) (b : Byte) (h : m.wf = true) : (m.write a b).wf = true := by
  induction m with
  | nil => rfl
  | cons c m ih =>
    obtain ⟨k, v⟩ := c
    have hc := (Memory.wf_cons _ _).1 h
    simp only [Memory.write]
    split
    · rename_i hk
      exact (Memory.wf_cons _ _).2 ⟨by simpa using hk, h⟩
    · split
      · rename_i _ hk
        subst hk
        exact (Memory.wf_cons _ _).2 hc
      · rename_i h1 h2
        refine (Memory.wf_cons _ _).2 ⟨fun d hd => ?_, ih hc.2⟩
        rcases Memory.head_write m a b d hd with e | e
        · simp only [e]; omega
        · exact hc.1 d e

theorem Memory.wf_writeRange (bs : List Byte) (m : Memory) (a : Nat) (h : m.wf = true) :
    (m.writeRange a bs).wf = true := by
  induction bs generalizing m a with
  | nil => exact h
  | cons b bs ih => exact ih _ _ (Memory.wf_write _ _ _ h)

theorem Memory.wf_writeCells (cs : List Host.Cell) (m : Memory) (h : m.wf = true) :
    (m.writeCells cs).wf = true := by
  induction cs generalizing m with
  | nil => exact h
  | cons c cs ih => exact ih _ (Memory.wf_write _ _ _ h)

/-- In a canonical memory every address is at least the first. -/
theorem Memory.read_below (m : Memory) (h : m.wf = true) (a : Nat) (ha : ∀ d ∈ m.head?, a < d.1) :
    m.read a = none := by
  induction m with
  | nil => rfl
  | cons c m ih =>
    have hc := (Memory.wf_cons _ _).1 h
    have hlt : a < c.1 := ha c rfl
    rw [Memory.read_cons, if_neg (by omega)]
    exact ih hc.2 fun d hd => lt_trans hlt (hc.1 d hd)

/-- Two canonical memories that read the same everywhere are the same list. -/
theorem Memory.ext_of_wf : ∀ (m m' : Memory), m.wf = true → m'.wf = true → (∀ a, m.read a = m'.read a) → m = m'
  | [], [], _, _, _ => rfl
  | [], c :: m', _, _, h => by simpa [Memory.read_cons] using h c.1
  | c :: m, [], _, _, h => by simpa [Memory.read_cons] using h c.1
  | c :: m, d :: m', hm, hm', h => by
    have hc := (Memory.wf_cons _ _).1 hm
    have hd := (Memory.wf_cons _ _).1 hm'
    have hk : c.1 = d.1 := by
      rcases lt_trichotomy c.1 d.1 with hlt | he | hgt
      · have := h c.1
        rw [Memory.read_cons, if_pos rfl, Memory.read_below _ hm' _ (by simpa using hlt)] at this
        simp at this
      · exact he
      · have := h d.1
        rw [Memory.read_cons d, if_pos rfl, Memory.read_below _ hm _ (by simpa using hgt)] at this
        simp at this
    have hv : c.2 = d.2 := by
      have := h c.1
      simpa [Memory.read_cons, hk] using this
    have htail : m = m' := by
      refine Memory.ext_of_wf m m' hc.2 hd.2 fun a => ?_
      have ha := h a
      rw [Memory.read_cons, Memory.read_cons] at ha
      by_cases hca : c.1 = a
      · rw [Memory.read_below m hc.2 a fun e he => hca ▸ hc.1 e he,
          Memory.read_below m' hd.2 a fun e he => by rw [← hca, hk]; exact hd.1 e he]
      · rwa [if_neg hca, if_neg (hk ▸ hca)] at ha
    rw [htail, Prod.ext hk hv]

/-- The cells of a list of free cells all lie in the buffer. -/
theorem mem_freeCells {draw base len : Nat} {overlap : List Nat} {c : Host.Cell}
    (h : c ∈ freeCells draw base len overlap) : ∃ i ∈ overlap, i < len ∧ c.1 = base + i := by
  simp only [freeCells, List.mem_map, List.mem_filter, decide_eq_true_eq] at h
  obtain ⟨i, ⟨hi, hl⟩, rfl⟩ := h
  exact ⟨i, hi, hl, rfl⟩

end Sys2Proof.Machine
end

