-- ==== Sys2Proof/Laws/PerInstr.lean ====
section
/-! SUPPORT. The families of statements made per instruction (LAWS.json). -/

namespace Sys2Proof.Laws.PassesLengthTests

/-- The word of an instruction passes both length tests of a decode: `word[1:0] = 0b11` and `word[4:2] ≠ 0b111`
(30_encoding.md R81). -/
def Statement (i : Instr) : Prop :=
  (encode i).extractLsb' 0 2 = 0b11#2 ∧ (encode i).extractLsb' 2 3 ≠ 0b111#3

/-- A word whose low seven bits are a 32-bit opcode and `11` passes. -/
theorem of_low7 (w : Word) (op : BitVec 5) (h : w.extractLsb' 0 7 = op ++ 0b11#2) (ho : op.extractLsb' 0 3 ≠ 0b111#3) :
    w.extractLsb' 0 2 = 0b11#2 ∧ w.extractLsb' 2 3 ≠ 0b111#3 := by
  obtain ⟨-, h0, h2⟩ := fields_of_low7 w op h
  exact ⟨h0, by rw [h2]; exact ho⟩

end Sys2Proof.Laws.PassesLengthTests

namespace Sys2Proof

theorem Laws.PassesLengthTests.lb (rd rs1 : Reg) (imm : Imm) : Laws.PassesLengthTests.Statement (.lb rd rs1 imm) :=
  Laws.PassesLengthTests.of_low7 _ 0x00 (encI_low _ _ _ _ _) (by decide)
theorem Laws.PassesLengthTests.lh (rd rs1 : Reg) (imm : Imm) : Laws.PassesLengthTests.Statement (.lh rd rs1 imm) :=
  Laws.PassesLengthTests.of_low7 _ 0x00 (encI_low _ _ _ _ _) (by decide)
theorem Laws.PassesLengthTests.lw (rd rs1 : Reg) (imm : Imm) : Laws.PassesLengthTests.Statement (.lw rd rs1 imm) :=
  Laws.PassesLengthTests.of_low7 _ 0x00 (encI_low _ _ _ _ _) (by decide)
theorem Laws.PassesLengthTests.ld (rd rs1 : Reg) (imm : Imm) : Laws.PassesLengthTests.Statement (.ld rd rs1 imm) :=
  Laws.PassesLengthTests.of_low7 _ 0x00 (encI_low _ _ _ _ _) (by decide)
theorem Laws.PassesLengthTests.lbu (rd rs1 : Reg) (imm : Imm) : Laws.PassesLengthTests.Statement (.lbu rd rs1 imm) :=
  Laws.PassesLengthTests.of_low7 _ 0x00 (encI_low _ _ _ _ _) (by decide)
theorem Laws.PassesLengthTests.lhu (rd rs1 : Reg) (imm : Imm) : Laws.PassesLengthTests.Statement (.lhu rd rs1 imm) :=
  Laws.PassesLengthTests.of_low7 _ 0x00 (encI_low _ _ _ _ _) (by decide)
theorem Laws.PassesLengthTests.lwu (rd rs1 : Reg) (imm : Imm) : Laws.PassesLengthTests.Statement (.lwu rd rs1 imm) :=
  Laws.PassesLengthTests.of_low7 _ 0x00 (encI_low _ _ _ _ _) (by decide)
theorem Laws.PassesLengthTests.sb (rs1 rs2 : Reg) (imm : Imm) : Laws.PassesLengthTests.Statement (.sb rs1 rs2 imm) :=
  Laws.PassesLengthTests.of_low7 _ 0x08 (encS_low _ _ _ _ _) (by decide)
theorem Laws.PassesLengthTests.sh (rs1 rs2 : Reg) (imm : Imm) : Laws.PassesLengthTests.Statement (.sh rs1 rs2 imm) :=
  Laws.PassesLengthTests.of_low7 _ 0x08 (encS_low _ _ _ _ _) (by decide)
theorem Laws.PassesLengthTests.sw (rs1 rs2 : Reg) (imm : Imm) : Laws.PassesLengthTests.Statement (.sw rs1 rs2 imm) :=
  Laws.PassesLengthTests.of_low7 _ 0x08 (encS_low _ _ _ _ _) (by decide)
theorem Laws.PassesLengthTests.sd (rs1 rs2 : Reg) (imm : Imm) : Laws.PassesLengthTests.Statement (.sd rs1 rs2 imm) :=
  Laws.PassesLengthTests.of_low7 _ 0x08 (encS_low _ _ _ _ _) (by decide)
theorem Laws.PassesLengthTests.addi (rd rs1 : Reg) (imm : Imm) : Laws.PassesLengthTests.Statement (.addi rd rs1 imm) :=
  Laws.PassesLengthTests.of_low7 _ 0x04 (encI_low _ _ _ _ _) (by decide)
theorem Laws.PassesLengthTests.slti (rd rs1 : Reg) (imm : Imm) : Laws.PassesLengthTests.Statement (.slti rd rs1 imm) :=
  Laws.PassesLengthTests.of_low7 _ 0x04 (encI_low _ _ _ _ _) (by decide)
theorem Laws.PassesLengthTests.sltiu (rd rs1 : Reg) (imm : Imm) : Laws.PassesLengthTests.Statement (.sltiu rd rs1 imm) :=
  Laws.PassesLengthTests.of_low7 _ 0x04 (encI_low _ _ _ _ _) (by decide)
theorem Laws.PassesLengthTests.xori (rd rs1 : Reg) (imm : Imm) : Laws.PassesLengthTests.Statement (.xori rd rs1 imm) :=
  Laws.PassesLengthTests.of_low7 _ 0x04 (encI_low _ _ _ _ _) (by decide)
theorem Laws.PassesLengthTests.ori (rd rs1 : Reg) (imm : Imm) : Laws.PassesLengthTests.Statement (.ori rd rs1 imm) :=
  Laws.PassesLengthTests.of_low7 _ 0x04 (encI_low _ _ _ _ _) (by decide)
theorem Laws.PassesLengthTests.andi (rd rs1 : Reg) (imm : Imm) : Laws.PassesLengthTests.Statement (.andi rd rs1 imm) :=
  Laws.PassesLengthTests.of_low7 _ 0x04 (encI_low _ _ _ _ _) (by decide)
theorem Laws.PassesLengthTests.slli (rd rs1 : Reg) (imm : Imm) : Laws.PassesLengthTests.Statement (.slli rd rs1 imm) :=
  Laws.PassesLengthTests.of_low7 _ 0x04 (encSh_low _ _ _ _ _ _) (by decide)
theorem Laws.PassesLengthTests.srli (rd rs1 : Reg) (imm : Imm) : Laws.PassesLengthTests.Statement (.srli rd rs1 imm) :=
  Laws.PassesLengthTests.of_low7 _ 0x04 (encSh_low _ _ _ _ _ _) (by decide)
theorem Laws.PassesLengthTests.srai (rd rs1 : Reg) (imm : Imm) : Laws.PassesLengthTests.Statement (.srai rd rs1 imm) :=
  Laws.PassesLengthTests.of_low7 _ 0x04 (encSh_low _ _ _ _ _ _) (by decide)
theorem Laws.PassesLengthTests.lui (rd : Reg) (imm : Imm) : Laws.PassesLengthTests.Statement (.lui rd imm) :=
  Laws.PassesLengthTests.of_low7 _ 0x0D (encU_low _ _ _) (by decide)
theorem Laws.PassesLengthTests.auipc (rd : Reg) (imm : Imm) : Laws.PassesLengthTests.Statement (.auipc rd imm) :=
  Laws.PassesLengthTests.of_low7 _ 0x05 (encU_low _ _ _) (by decide)
theorem Laws.PassesLengthTests.addiw (rd rs1 : Reg) (imm : Imm) : Laws.PassesLengthTests.Statement (.addiw rd rs1 imm) :=
  Laws.PassesLengthTests.of_low7 _ 0x06 (encI_low _ _ _ _ _) (by decide)
theorem Laws.PassesLengthTests.slliw (rd rs1 : Reg) (imm : Imm) : Laws.PassesLengthTests.Statement (.slliw rd rs1 imm) :=
  Laws.PassesLengthTests.of_low7 _ 0x06 (encSh_low _ _ _ _ _ _) (by decide)
theorem Laws.PassesLengthTests.srliw (rd rs1 : Reg) (imm : Imm) : Laws.PassesLengthTests.Statement (.srliw rd rs1 imm) :=
  Laws.PassesLengthTests.of_low7 _ 0x06 (encSh_low _ _ _ _ _ _) (by decide)
theorem Laws.PassesLengthTests.sraiw (rd rs1 : Reg) (imm : Imm) : Laws.PassesLengthTests.Statement (.sraiw rd rs1 imm) :=
  Laws.PassesLengthTests.of_low7 _ 0x06 (encSh_low _ _ _ _ _ _) (by decide)
theorem Laws.PassesLengthTests.add (rd rs1 rs2 : Reg) : Laws.PassesLengthTests.Statement (.add rd rs1 rs2) :=
  Laws.PassesLengthTests.of_low7 _ 0x0C (encR_low _ _ _ _ _ _) (by decide)
theorem Laws.PassesLengthTests.sub (rd rs1 rs2 : Reg) : Laws.PassesLengthTests.Statement (.sub rd rs1 rs2) :=
  Laws.PassesLengthTests.of_low7 _ 0x0C (encR_low _ _ _ _ _ _) (by decide)
theorem Laws.PassesLengthTests.sll (rd rs1 rs2 : Reg) : Laws.PassesLengthTests.Statement (.sll rd rs1 rs2) :=
  Laws.PassesLengthTests.of_low7 _ 0x0C (encR_low _ _ _ _ _ _) (by decide)
theorem Laws.PassesLengthTests.slt (rd rs1 rs2 : Reg) : Laws.PassesLengthTests.Statement (.slt rd rs1 rs2) :=
  Laws.PassesLengthTests.of_low7 _ 0x0C (encR_low _ _ _ _ _ _) (by decide)
theorem Laws.PassesLengthTests.sltu (rd rs1 rs2 : Reg) : Laws.PassesLengthTests.Statement (.sltu rd rs1 rs2) :=
  Laws.PassesLengthTests.of_low7 _ 0x0C (encR_low _ _ _ _ _ _) (by decide)
theorem Laws.PassesLengthTests.xor (rd rs1 rs2 : Reg) : Laws.PassesLengthTests.Statement (.xor rd rs1 rs2) :=
  Laws.PassesLengthTests.of_low7 _ 0x0C (encR_low _ _ _ _ _ _) (by decide)
theorem Laws.PassesLengthTests.srl (rd rs1 rs2 : Reg) : Laws.PassesLengthTests.Statement (.srl rd rs1 rs2) :=
  Laws.PassesLengthTests.of_low7 _ 0x0C (encR_low _ _ _ _ _ _) (by decide)
theorem Laws.PassesLengthTests.sra (rd rs1 rs2 : Reg) : Laws.PassesLengthTests.Statement (.sra rd rs1 rs2) :=
  Laws.PassesLengthTests.of_low7 _ 0x0C (encR_low _ _ _ _ _ _) (by decide)
theorem Laws.PassesLengthTests.or (rd rs1 rs2 : Reg) : Laws.PassesLengthTests.Statement (.or rd rs1 rs2) :=
  Laws.PassesLengthTests.of_low7 _ 0x0C (encR_low _ _ _ _ _ _) (by decide)
theorem Laws.PassesLengthTests.and (rd rs1 rs2 : Reg) : Laws.PassesLengthTests.Statement (.and rd rs1 rs2) :=
  Laws.PassesLengthTests.of_low7 _ 0x0C (encR_low _ _ _ _ _ _) (by decide)
theorem Laws.PassesLengthTests.mul (rd rs1 rs2 : Reg) : Laws.PassesLengthTests.Statement (.mul rd rs1 rs2) :=
  Laws.PassesLengthTests.of_low7 _ 0x0C (encR_low _ _ _ _ _ _) (by decide)
theorem Laws.PassesLengthTests.mulh (rd rs1 rs2 : Reg) : Laws.PassesLengthTests.Statement (.mulh rd rs1 rs2) :=
  Laws.PassesLengthTests.of_low7 _ 0x0C (encR_low _ _ _ _ _ _) (by decide)
theorem Laws.PassesLengthTests.mulhsu (rd rs1 rs2 : Reg) : Laws.PassesLengthTests.Statement (.mulhsu rd rs1 rs2) :=
  Laws.PassesLengthTests.of_low7 _ 0x0C (encR_low _ _ _ _ _ _) (by decide)
theorem Laws.PassesLengthTests.mulhu (rd rs1 rs2 : Reg) : Laws.PassesLengthTests.Statement (.mulhu rd rs1 rs2) :=
  Laws.PassesLengthTests.of_low7 _ 0x0C (encR_low _ _ _ _ _ _) (by decide)
theorem Laws.PassesLengthTests.div (rd rs1 rs2 : Reg) : Laws.PassesLengthTests.Statement (.div rd rs1 rs2) :=
  Laws.PassesLengthTests.of_low7 _ 0x0C (encR_low _ _ _ _ _ _) (by decide)
theorem Laws.PassesLengthTests.divu (rd rs1 rs2 : Reg) : Laws.PassesLengthTests.Statement (.divu rd rs1 rs2) :=
  Laws.PassesLengthTests.of_low7 _ 0x0C (encR_low _ _ _ _ _ _) (by decide)
theorem Laws.PassesLengthTests.rem (rd rs1 rs2 : Reg) : Laws.PassesLengthTests.Statement (.rem rd rs1 rs2) :=
  Laws.PassesLengthTests.of_low7 _ 0x0C (encR_low _ _ _ _ _ _) (by decide)
theorem Laws.PassesLengthTests.remu (rd rs1 rs2 : Reg) : Laws.PassesLengthTests.Statement (.remu rd rs1 rs2) :=
  Laws.PassesLengthTests.of_low7 _ 0x0C (encR_low _ _ _ _ _ _) (by decide)
theorem Laws.PassesLengthTests.addw (rd rs1 rs2 : Reg) : Laws.PassesLengthTests.Statement (.addw rd rs1 rs2) :=
  Laws.PassesLengthTests.of_low7 _ 0x0E (encR_low _ _ _ _ _ _) (by decide)
theorem Laws.PassesLengthTests.subw (rd rs1 rs2 : Reg) : Laws.PassesLengthTests.Statement (.subw rd rs1 rs2) :=
  Laws.PassesLengthTests.of_low7 _ 0x0E (encR_low _ _ _ _ _ _) (by decide)
theorem Laws.PassesLengthTests.sllw (rd rs1 rs2 : Reg) : Laws.PassesLengthTests.Statement (.sllw rd rs1 rs2) :=
  Laws.PassesLengthTests.of_low7 _ 0x0E (encR_low _ _ _ _ _ _) (by decide)
theorem Laws.PassesLengthTests.srlw (rd rs1 rs2 : Reg) : Laws.PassesLengthTests.Statement (.srlw rd rs1 rs2) :=
  Laws.PassesLengthTests.of_low7 _ 0x0E (encR_low _ _ _ _ _ _) (by decide)
theorem Laws.PassesLengthTests.sraw (rd rs1 rs2 : Reg) : Laws.PassesLengthTests.Statement (.sraw rd rs1 rs2) :=
  Laws.PassesLengthTests.of_low7 _ 0x0E (encR_low _ _ _ _ _ _) (by decide)
theorem Laws.PassesLengthTests.mulw (rd rs1 rs2 : Reg) : Laws.PassesLengthTests.Statement (.mulw rd rs1 rs2) :=
  Laws.PassesLengthTests.of_low7 _ 0x0E (encR_low _ _ _ _ _ _) (by decide)
theorem Laws.PassesLengthTests.divw (rd rs1 rs2 : Reg) : Laws.PassesLengthTests.Statement (.divw rd rs1 rs2) :=
  Laws.PassesLengthTests.of_low7 _ 0x0E (encR_low _ _ _ _ _ _) (by decide)
theorem Laws.PassesLengthTests.divuw (rd rs1 rs2 : Reg) : Laws.PassesLengthTests.Statement (.divuw rd rs1 rs2) :=
  Laws.PassesLengthTests.of_low7 _ 0x0E (encR_low _ _ _ _ _ _) (by decide)
theorem Laws.PassesLengthTests.remw (rd rs1 rs2 : Reg) : Laws.PassesLengthTests.Statement (.remw rd rs1 rs2) :=
  Laws.PassesLengthTests.of_low7 _ 0x0E (encR_low _ _ _ _ _ _) (by decide)
theorem Laws.PassesLengthTests.remuw (rd rs1 rs2 : Reg) : Laws.PassesLengthTests.Statement (.remuw rd rs1 rs2) :=
  Laws.PassesLengthTests.of_low7 _ 0x0E (encR_low _ _ _ _ _ _) (by decide)
theorem Laws.PassesLengthTests.lrW (rd rs1 rs2 : Reg) (imm : Imm) : Laws.PassesLengthTests.Statement (.lrW rd rs1 rs2 imm) :=
  Laws.PassesLengthTests.of_low7 _ 0x0B (encAmo_low _ _ _ _ _ _ _) (by decide)
theorem Laws.PassesLengthTests.scW (rd rs1 rs2 : Reg) (imm : Imm) : Laws.PassesLengthTests.Statement (.scW rd rs1 rs2 imm) :=
  Laws.PassesLengthTests.of_low7 _ 0x0B (encAmo_low _ _ _ _ _ _ _) (by decide)
theorem Laws.PassesLengthTests.amoswapW (rd rs1 rs2 : Reg) (imm : Imm) : Laws.PassesLengthTests.Statement (.amoswapW rd rs1 rs2 imm) :=
  Laws.PassesLengthTests.of_low7 _ 0x0B (encAmo_low _ _ _ _ _ _ _) (by decide)
theorem Laws.PassesLengthTests.amoaddW (rd rs1 rs2 : Reg) (imm : Imm) : Laws.PassesLengthTests.Statement (.amoaddW rd rs1 rs2 imm) :=
  Laws.PassesLengthTests.of_low7 _ 0x0B (encAmo_low _ _ _ _ _ _ _) (by decide)
theorem Laws.PassesLengthTests.amoxorW (rd rs1 rs2 : Reg) (imm : Imm) : Laws.PassesLengthTests.Statement (.amoxorW rd rs1 rs2 imm) :=
  Laws.PassesLengthTests.of_low7 _ 0x0B (encAmo_low _ _ _ _ _ _ _) (by decide)
theorem Laws.PassesLengthTests.amoandW (rd rs1 rs2 : Reg) (imm : Imm) : Laws.PassesLengthTests.Statement (.amoandW rd rs1 rs2 imm) :=
  Laws.PassesLengthTests.of_low7 _ 0x0B (encAmo_low _ _ _ _ _ _ _) (by decide)
theorem Laws.PassesLengthTests.amoorW (rd rs1 rs2 : Reg) (imm : Imm) : Laws.PassesLengthTests.Statement (.amoorW rd rs1 rs2 imm) :=
  Laws.PassesLengthTests.of_low7 _ 0x0B (encAmo_low _ _ _ _ _ _ _) (by decide)
theorem Laws.PassesLengthTests.amominW (rd rs1 rs2 : Reg) (imm : Imm) : Laws.PassesLengthTests.Statement (.amominW rd rs1 rs2 imm) :=
  Laws.PassesLengthTests.of_low7 _ 0x0B (encAmo_low _ _ _ _ _ _ _) (by decide)
theorem Laws.PassesLengthTests.amomaxW (rd rs1 rs2 : Reg) (imm : Imm) : Laws.PassesLengthTests.Statement (.amomaxW rd rs1 rs2 imm) :=
  Laws.PassesLengthTests.of_low7 _ 0x0B (encAmo_low _ _ _ _ _ _ _) (by decide)
theorem Laws.PassesLengthTests.amominuW (rd rs1 rs2 : Reg) (imm : Imm) : Laws.PassesLengthTests.Statement (.amominuW rd rs1 rs2 imm) :=
  Laws.PassesLengthTests.of_low7 _ 0x0B (encAmo_low _ _ _ _ _ _ _) (by decide)
theorem Laws.PassesLengthTests.amomaxuW (rd rs1 rs2 : Reg) (imm : Imm) : Laws.PassesLengthTests.Statement (.amomaxuW rd rs1 rs2 imm) :=
  Laws.PassesLengthTests.of_low7 _ 0x0B (encAmo_low _ _ _ _ _ _ _) (by decide)
theorem Laws.PassesLengthTests.lrD (rd rs1 rs2 : Reg) (imm : Imm) : Laws.PassesLengthTests.Statement (.lrD rd rs1 rs2 imm) :=
  Laws.PassesLengthTests.of_low7 _ 0x0B (encAmo_low _ _ _ _ _ _ _) (by decide)
theorem Laws.PassesLengthTests.scD (rd rs1 rs2 : Reg) (imm : Imm) : Laws.PassesLengthTests.Statement (.scD rd rs1 rs2 imm) :=
  Laws.PassesLengthTests.of_low7 _ 0x0B (encAmo_low _ _ _ _ _ _ _) (by decide)
theorem Laws.PassesLengthTests.amoswapD (rd rs1 rs2 : Reg) (imm : Imm) : Laws.PassesLengthTests.Statement (.amoswapD rd rs1 rs2 imm) :=
  Laws.PassesLengthTests.of_low7 _ 0x0B (encAmo_low _ _ _ _ _ _ _) (by decide)
theorem Laws.PassesLengthTests.amoaddD (rd rs1 rs2 : Reg) (imm : Imm) : Laws.PassesLengthTests.Statement (.amoaddD rd rs1 rs2 imm) :=
  Laws.PassesLengthTests.of_low7 _ 0x0B (encAmo_low _ _ _ _ _ _ _) (by decide)
theorem Laws.PassesLengthTests.amoxorD (rd rs1 rs2 : Reg) (imm : Imm) : Laws.PassesLengthTests.Statement (.amoxorD rd rs1 rs2 imm) :=
  Laws.PassesLengthTests.of_low7 _ 0x0B (encAmo_low _ _ _ _ _ _ _) (by decide)
theorem Laws.PassesLengthTests.amoandD (rd rs1 rs2 : Reg) (imm : Imm) : Laws.PassesLengthTests.Statement (.amoandD rd rs1 rs2 imm) :=
  Laws.PassesLengthTests.of_low7 _ 0x0B (encAmo_low _ _ _ _ _ _ _) (by decide)
theorem Laws.PassesLengthTests.amoorD (rd rs1 rs2 : Reg) (imm : Imm) : Laws.PassesLengthTests.Statement (.amoorD rd rs1 rs2 imm) :=
  Laws.PassesLengthTests.of_low7 _ 0x0B (encAmo_low _ _ _ _ _ _ _) (by decide)
theorem Laws.PassesLengthTests.amominD (rd rs1 rs2 : Reg) (imm : Imm) : Laws.PassesLengthTests.Statement (.amominD rd rs1 rs2 imm) :=
  Laws.PassesLengthTests.of_low7 _ 0x0B (encAmo_low _ _ _ _ _ _ _) (by decide)
theorem Laws.PassesLengthTests.amomaxD (rd rs1 rs2 : Reg) (imm : Imm) : Laws.PassesLengthTests.Statement (.amomaxD rd rs1 rs2 imm) :=
  Laws.PassesLengthTests.of_low7 _ 0x0B (encAmo_low _ _ _ _ _ _ _) (by decide)
theorem Laws.PassesLengthTests.amominuD (rd rs1 rs2 : Reg) (imm : Imm) : Laws.PassesLengthTests.Statement (.amominuD rd rs1 rs2 imm) :=
  Laws.PassesLengthTests.of_low7 _ 0x0B (encAmo_low _ _ _ _ _ _ _) (by decide)
theorem Laws.PassesLengthTests.amomaxuD (rd rs1 rs2 : Reg) (imm : Imm) : Laws.PassesLengthTests.Statement (.amomaxuD rd rs1 rs2 imm) :=
  Laws.PassesLengthTests.of_low7 _ 0x0B (encAmo_low _ _ _ _ _ _ _) (by decide)
theorem Laws.PassesLengthTests.beq (rs1 rs2 : Reg) (imm : Imm) : Laws.PassesLengthTests.Statement (.beq rs1 rs2 imm) :=
  Laws.PassesLengthTests.of_low7 _ 0x18 (encB_low _ _ _ _ _) (by decide)
theorem Laws.PassesLengthTests.bne (rs1 rs2 : Reg) (imm : Imm) : Laws.PassesLengthTests.Statement (.bne rs1 rs2 imm) :=
  Laws.PassesLengthTests.of_low7 _ 0x18 (encB_low _ _ _ _ _) (by decide)
theorem Laws.PassesLengthTests.blt (rs1 rs2 : Reg) (imm : Imm) : Laws.PassesLengthTests.Statement (.blt rs1 rs2 imm) :=
  Laws.PassesLengthTests.of_low7 _ 0x18 (encB_low _ _ _ _ _) (by decide)
theorem Laws.PassesLengthTests.bge (rs1 rs2 : Reg) (imm : Imm) : Laws.PassesLengthTests.Statement (.bge rs1 rs2 imm) :=
  Laws.PassesLengthTests.of_low7 _ 0x18 (encB_low _ _ _ _ _) (by decide)
theorem Laws.PassesLengthTests.bltu (rs1 rs2 : Reg) (imm : Imm) : Laws.PassesLengthTests.Statement (.bltu rs1 rs2 imm) :=
  Laws.PassesLengthTests.of_low7 _ 0x18 (encB_low _ _ _ _ _) (by decide)
theorem Laws.PassesLengthTests.bgeu (rs1 rs2 : Reg) (imm : Imm) : Laws.PassesLengthTests.Statement (.bgeu rs1 rs2 imm) :=
  Laws.PassesLengthTests.of_low7 _ 0x18 (encB_low _ _ _ _ _) (by decide)
theorem Laws.PassesLengthTests.jalr (rd rs1 : Reg) (imm : Imm) : Laws.PassesLengthTests.Statement (.jalr rd rs1 imm) :=
  Laws.PassesLengthTests.of_low7 _ 0x19 (encI_low _ _ _ _ _) (by decide)
theorem Laws.PassesLengthTests.jal (rd : Reg) (imm : Imm) : Laws.PassesLengthTests.Statement (.jal rd imm) :=
  Laws.PassesLengthTests.of_low7 _ 0x1B (encJ_low _ _ _) (by decide)
theorem Laws.PassesLengthTests.ecall (rd rs1 : Reg) (imm : Imm) : Laws.PassesLengthTests.Statement (.ecall rd rs1 imm) :=
  Laws.PassesLengthTests.of_low7 _ 0x1C (encI_low _ _ _ _ _) (by decide)
theorem Laws.PassesLengthTests.csrrw (rd rs1 : Reg) (imm : Imm) : Laws.PassesLengthTests.Statement (.csrrw rd rs1 imm) :=
  Laws.PassesLengthTests.of_low7 _ 0x1C (encI_low _ _ _ _ _) (by decide)
theorem Laws.PassesLengthTests.csrrs (rd rs1 : Reg) (imm : Imm) : Laws.PassesLengthTests.Statement (.csrrs rd rs1 imm) :=
  Laws.PassesLengthTests.of_low7 _ 0x1C (encI_low _ _ _ _ _) (by decide)
theorem Laws.PassesLengthTests.csrrc (rd rs1 : Reg) (imm : Imm) : Laws.PassesLengthTests.Statement (.csrrc rd rs1 imm) :=
  Laws.PassesLengthTests.of_low7 _ 0x1C (encI_low _ _ _ _ _) (by decide)
theorem Laws.PassesLengthTests.csrrwi (rd rs1 : Reg) (imm : Imm) : Laws.PassesLengthTests.Statement (.csrrwi rd rs1 imm) :=
  Laws.PassesLengthTests.of_low7 _ 0x1C (encI_low _ _ _ _ _) (by decide)
theorem Laws.PassesLengthTests.csrrsi (rd rs1 : Reg) (imm : Imm) : Laws.PassesLengthTests.Statement (.csrrsi rd rs1 imm) :=
  Laws.PassesLengthTests.of_low7 _ 0x1C (encI_low _ _ _ _ _) (by decide)
theorem Laws.PassesLengthTests.csrrci (rd rs1 : Reg) (imm : Imm) : Laws.PassesLengthTests.Statement (.csrrci rd rs1 imm) :=
  Laws.PassesLengthTests.of_low7 _ 0x1C (encI_low _ _ _ _ _) (by decide)
theorem Laws.PassesLengthTests.fence (rd rs1 : Reg) (imm : Imm) : Laws.PassesLengthTests.Statement (.fence rd rs1 imm) :=
  Laws.PassesLengthTests.of_low7 _ 0x03 (encI_low _ _ _ _ _) (by decide)
theorem Laws.PassesLengthTests.fencei (rd rs1 : Reg) (imm : Imm) : Laws.PassesLengthTests.Statement (.fencei rd rs1 imm) :=
  Laws.PassesLengthTests.of_low7 _ 0x03 (encI_low _ _ _ _ _) (by decide)

end Sys2Proof
end

