-- ==== Sys2Proof/Machine/Harness.lean ====
section
/-! DEFINITION. The caller that 95_test_vectors.md section 3 uses to walk a byte stream with the block. It is the
spec's own and no part of the block, which skips no byte and keeps no position (60_exceptions.md R354, 10_state.md
R28): it makes its requests of `step`, and `step` knows nothing of it. -/

namespace Sys2Proof.Machine

/-- The caller: the block it uses, with the stream at the start of the input storage, the offset, the texts so far, and
whether it has stopped. -/
structure Walk where
  block : State
  off : Nat
  out : List (List Byte)
  stopped : Bool
deriving DecidableEq, Repr

/-- Make one request of the block and take the state after it. -/
def State.ask (s : State) (r : Request) : State :=
  match step { s with pending := [r] } with
  | .next t => t
  | .fault _ => s
  | .refused _ => s

/-- The characters from cell `a` to the NUL, at most `fuel` of them. -/
def textAt (m : Memory) : (fuel : Nat) → (a : Nat) → List Byte
  | 0, _ => []
  | fuel + 1, a =>
    match m.read a with
    | none => []
    | some c => if c = 0x00 then [] else c :: textAt m fuel (a + 1)

/-- How far the caller skips at an Undefined word: 2 bytes if its first byte is a compressed form, else 4. -/
def skip : Option Byte → Nat
  | some b => if b.extractLsb' 0 2 ≠ 0b11 then 2 else 4
  | none => 4

/-- One turn of the loop over a stream of `len` bytes. -/
def Walk.turn (len : Nat) (w : Walk) : Walk :=
  let s := w.block.ask (.decode { base := w.off, inLen := len - w.off })
  match s.decoded with
  | some (.ok n _) =>
    let t := s.ask (.format { source := .decoded, base := 0, cap := 38 })
    { block := t, off := w.off + n, out := w.out ++ [textAt t.outMem 38 0], stopped := false }
  | some .undefined =>
    { block := s, off := w.off + skip (s.inMem.read w.off), out := w.out ++ [ascii "?"], stopped := false }
  | some .partialInput => { w with block := s, stopped := true }
  | none => { w with block := s, stopped := true }

end Sys2Proof.Machine
end

