-- ==== Sys2Proof/Tests/Slice0.lean ====
section
/-! SUPPORT. Tests of the model against spec/95_test_vectors.md (every expected value is copied from there or written out
from the rule named), the smoke test of WellFormed, and a witness for each statement that has hypotheses. -/

open Sys2Proof Sys2Proof.Machine Sys2Proof.Safety

namespace Sys2Proof.Tests

/-! ## Helpers -/

/-- A record by its code and fields. -/
def rec (code : MnemCode) (rd rs1 rs2 rs3 : Option Reg) (imm : Imm) : Record := ⟨code, rd, rs1, rs2, rs3, imm⟩

/-- A block whose caller holds these bytes from cell 0 and asks for their decode. -/
def supply (bytes : List Byte) : State :=
  { State.reset with
    inMem := Memory.writeRange [] 0 bytes
    pending := [.decode { base := 0, inLen := bytes.length }] }

/-- A block asked to format a record into an output storage of twelve cells that all hold `#`. -/
def page (r : Record) (cap : Nat) : State :=
  { State.reset with
    outMem := Memory.writeRange [] 0 (List.replicate 12 0x23)
    pending := [.format { source := .given r, base := 0, cap := cap }] }

/-- What the Decoder answers after one step. -/
def answers (s : State) (a : Answer) : Bool :=
  match step s with
  | .next t => decide (t.decoded = some a)
  | .fault _ => false
  | .refused _ => false

/-- One step goes to this state. -/
def goesTo (s t : State) : Bool :=
  match step s with
  | .next u => decide (u = t)
  | .fault _ => false
  | .refused _ => false

/-- What the output storage holds after one step, as one text from cell 0. -/
def prints (s : State) (text : List Byte) : Bool :=
  match step s with
  | .next t => decide (t.outMem = Memory.writeRange [] 0 text)
  | .fault _ => false
  | .refused _ => false

/-- A word's instruction, the record one step delivers, and that record's text. -/
def vec (w : Nat) (i : Instr) (r : Record) (text : String) : Bool :=
  decide (decodeTableWord 32 w = some i) && answers (supply (wordBytes (BitVec.ofNat 32 w))) (.ok 4 r) &&
    decide (fullText nameRom r = ascii text) && i.wellFormed

/-! ## WellFormed refuses an ill-formed term for each check -/

theorem test_wellFormed_refuses_I : (Instr.addi 1 2 2048).wellFormed = false := by decide
theorem test_wellFormed_refuses_I_below : (Instr.csrrw 1 2 (-2049)).wellFormed = false := by decide
theorem test_wellFormed_refuses_S : (Instr.sd 1 2 (-2049)).wellFormed = false := by decide
theorem test_wellFormed_refuses_B_range : (Instr.beq 1 2 4096).wellFormed = false := by decide
theorem test_wellFormed_refuses_B_odd : (Instr.bgeu 1 2 3).wellFormed = false := by decide
theorem test_wellFormed_refuses_U : (Instr.lui 1 1).wellFormed = false := by decide
theorem test_wellFormed_refuses_J_range : (Instr.jal 1 1048576).wellFormed = false := by decide
theorem test_wellFormed_refuses_J_odd : (Instr.jal 1 5).wellFormed = false := by decide
theorem test_wellFormed_refuses_AMO : (Instr.lrW 1 2 3 4).wellFormed = false := by decide
theorem test_wellFormed_refuses_SH : (Instr.sraiw 1 2 64).wellFormed = false := by decide

/-! ## One word per row (95_test_vectors.md 2.1) -/

theorem test_rows_LoadStore_1 :
    vec 0xFF930283 (.lb 5 6 (-7)) (rec 1 (some 5) (some 6) none none (-7)) "lb r5 r6 -7" = true ∧
    vec 0xFF931283 (.lh 5 6 (-7)) (rec 2 (some 5) (some 6) none none (-7)) "lh r5 r6 -7" = true ∧
    vec 0xFF932283 (.lw 5 6 (-7)) (rec 3 (some 5) (some 6) none none (-7)) "lw r5 r6 -7" = true ∧
    vec 0xFF933283 (.ld 5 6 (-7)) (rec 4 (some 5) (some 6) none none (-7)) "ld r5 r6 -7" = true ∧
    vec 0xFF934283 (.lbu 5 6 (-7)) (rec 5 (some 5) (some 6) none none (-7)) "lbu r5 r6 -7" = true ∧
    vec 0xFF935283 (.lhu 5 6 (-7)) (rec 6 (some 5) (some 6) none none (-7)) "lhu r5 r6 -7" = true ∧
    vec 0xFF936283 (.lwu 5 6 (-7)) (rec 7 (some 5) (some 6) none none (-7)) "lwu r5 r6 -7" = true ∧
    vec 0xFE730C23 (.sb 6 7 (-8)) (rec 8 none (some 6) (some 7) none (-8)) "sb r6 r7 -8" = true := by decide

theorem test_rows_LoadStore_2 :
    vec 0xFE731C23 (.sh 6 7 (-8)) (rec 9 none (some 6) (some 7) none (-8)) "sh r6 r7 -8" = true ∧
    vec 0xFE732C23 (.sw 6 7 (-8)) (rec 10 none (some 6) (some 7) none (-8)) "sw r6 r7 -8" = true ∧
    vec 0xFE733C23 (.sd 6 7 (-8)) (rec 11 none (some 6) (some 7) none (-8)) "sd r6 r7 -8" = true := by decide

theorem test_rows_IntImm_1 :
    vec 0xFF930293 (.addi 5 6 (-7)) (rec 12 (some 5) (some 6) none none (-7)) "addi r5 r6 -7" = true ∧
    vec 0xFF932293 (.slti 5 6 (-7)) (rec 13 (some 5) (some 6) none none (-7)) "slti r5 r6 -7" = true ∧
    vec 0xFF933293 (.sltiu 5 6 (-7)) (rec 14 (some 5) (some 6) none none (-7)) "sltiu r5 r6 -7" = true ∧
    vec 0xFF934293 (.xori 5 6 (-7)) (rec 15 (some 5) (some 6) none none (-7)) "xori r5 r6 -7" = true ∧
    vec 0xFF936293 (.ori 5 6 (-7)) (rec 16 (some 5) (some 6) none none (-7)) "ori r5 r6 -7" = true ∧
    vec 0xFF937293 (.andi 5 6 (-7)) (rec 17 (some 5) (some 6) none none (-7)) "andi r5 r6 -7" = true ∧
    vec 0x00D31293 (.slli 5 6 13) (rec 18 (some 5) (some 6) none none 13) "slli r5 r6 13" = true ∧
    vec 0x00D35293 (.srli 5 6 13) (rec 19 (some 5) (some 6) none none 13) "srli r5 r6 13" = true := by decide

theorem test_rows_IntImm_2 :
    vec 0x40D35293 (.srai 5 6 13) (rec 20 (some 5) (some 6) none none 13) "srai r5 r6 13" = true ∧
    vec 0xABCDE2B7 (.lui 5 (-1412571136)) (rec 21 (some 5) none none none (-1412571136)) "lui r5 -1412571136" = true ∧
    vec 0xABCDE297 (.auipc 5 (-1412571136)) (rec 22 (some 5) none none none (-1412571136)) "auipc r5 -1412571136" = true ∧
    vec 0xFF93029B (.addiw 5 6 (-7)) (rec 23 (some 5) (some 6) none none (-7)) "addiw r5 r6 -7" = true ∧
    vec 0x00D3129B (.slliw 5 6 13) (rec 24 (some 5) (some 6) none none 13) "slliw r5 r6 13" = true ∧
    vec 0x00D3529B (.srliw 5 6 13) (rec 25 (some 5) (some 6) none none 13) "srliw r5 r6 13" = true ∧
    vec 0x40D3529B (.sraiw 5 6 13) (rec 26 (some 5) (some 6) none none 13) "sraiw r5 r6 13" = true := by decide

theorem test_rows_IntReg_1 :
    vec 0x007302B3 (.add 5 6 7) (rec 27 (some 5) (some 6) (some 7) none 0) "add r5 r6 r7" = true ∧
    vec 0x407302B3 (.sub 5 6 7) (rec 28 (some 5) (some 6) (some 7) none 0) "sub r5 r6 r7" = true ∧
    vec 0x007312B3 (.sll 5 6 7) (rec 29 (some 5) (some 6) (some 7) none 0) "sll r5 r6 r7" = true ∧
    vec 0x007322B3 (.slt 5 6 7) (rec 30 (some 5) (some 6) (some 7) none 0) "slt r5 r6 r7" = true ∧
    vec 0x007332B3 (.sltu 5 6 7) (rec 31 (some 5) (some 6) (some 7) none 0) "sltu r5 r6 r7" = true ∧
    vec 0x007342B3 (.xor 5 6 7) (rec 32 (some 5) (some 6) (some 7) none 0) "xor r5 r6 r7" = true ∧
    vec 0x007352B3 (.srl 5 6 7) (rec 33 (some 5) (some 6) (some 7) none 0) "srl r5 r6 r7" = true ∧
    vec 0x407352B3 (.sra 5 6 7) (rec 34 (some 5) (some 6) (some 7) none 0) "sra r5 r6 r7" = true := by decide

theorem test_rows_IntReg_2 :
    vec 0x007362B3 (.or 5 6 7) (rec 35 (some 5) (some 6) (some 7) none 0) "or r5 r6 r7" = true ∧
    vec 0x007372B3 (.and 5 6 7) (rec 36 (some 5) (some 6) (some 7) none 0) "and r5 r6 r7" = true ∧
    vec 0x027302B3 (.mul 5 6 7) (rec 37 (some 5) (some 6) (some 7) none 0) "mul r5 r6 r7" = true ∧
    vec 0x027312B3 (.mulh 5 6 7) (rec 38 (some 5) (some 6) (some 7) none 0) "mulh r5 r6 r7" = true ∧
    vec 0x027322B3 (.mulhsu 5 6 7) (rec 39 (some 5) (some 6) (some 7) none 0) "mulhsu r5 r6 r7" = true ∧
    vec 0x027332B3 (.mulhu 5 6 7) (rec 40 (some 5) (some 6) (some 7) none 0) "mulhu r5 r6 r7" = true ∧
    vec 0x027342B3 (.div 5 6 7) (rec 41 (some 5) (some 6) (some 7) none 0) "div r5 r6 r7" = true ∧
    vec 0x027352B3 (.divu 5 6 7) (rec 42 (some 5) (some 6) (some 7) none 0) "divu r5 r6 r7" = true := by decide

theorem test_rows_IntReg_3 :
    vec 0x027362B3 (.rem 5 6 7) (rec 43 (some 5) (some 6) (some 7) none 0) "rem r5 r6 r7" = true ∧
    vec 0x027372B3 (.remu 5 6 7) (rec 44 (some 5) (some 6) (some 7) none 0) "remu r5 r6 r7" = true ∧
    vec 0x007302BB (.addw 5 6 7) (rec 45 (some 5) (some 6) (some 7) none 0) "addw r5 r6 r7" = true ∧
    vec 0x407302BB (.subw 5 6 7) (rec 46 (some 5) (some 6) (some 7) none 0) "subw r5 r6 r7" = true ∧
    vec 0x007312BB (.sllw 5 6 7) (rec 47 (some 5) (some 6) (some 7) none 0) "sllw r5 r6 r7" = true ∧
    vec 0x007352BB (.srlw 5 6 7) (rec 48 (some 5) (some 6) (some 7) none 0) "srlw r5 r6 r7" = true ∧
    vec 0x407352BB (.sraw 5 6 7) (rec 49 (some 5) (some 6) (some 7) none 0) "sraw r5 r6 r7" = true ∧
    vec 0x027302BB (.mulw 5 6 7) (rec 50 (some 5) (some 6) (some 7) none 0) "mulw r5 r6 r7" = true := by decide

theorem test_rows_IntReg_4 :
    vec 0x027342BB (.divw 5 6 7) (rec 51 (some 5) (some 6) (some 7) none 0) "divw r5 r6 r7" = true ∧
    vec 0x027352BB (.divuw 5 6 7) (rec 52 (some 5) (some 6) (some 7) none 0) "divuw r5 r6 r7" = true ∧
    vec 0x027362BB (.remw 5 6 7) (rec 53 (some 5) (some 6) (some 7) none 0) "remw r5 r6 r7" = true ∧
    vec 0x027372BB (.remuw 5 6 7) (rec 54 (some 5) (some 6) (some 7) none 0) "remuw r5 r6 r7" = true := by decide

theorem test_rows_Atomic_1 :
    vec 0x167322AF (.lrW 5 6 7 3) (rec 55 (some 5) (some 6) (some 7) none 3) "lr.w r5 r6 r7 3" = true ∧
    vec 0x1E7322AF (.scW 5 6 7 3) (rec 56 (some 5) (some 6) (some 7) none 3) "sc.w r5 r6 r7 3" = true ∧
    vec 0x0E7322AF (.amoswapW 5 6 7 3) (rec 57 (some 5) (some 6) (some 7) none 3) "amoswap.w r5 r6 r7 3" = true ∧
    vec 0x067322AF (.amoaddW 5 6 7 3) (rec 58 (some 5) (some 6) (some 7) none 3) "amoadd.w r5 r6 r7 3" = true ∧
    vec 0x267322AF (.amoxorW 5 6 7 3) (rec 59 (some 5) (some 6) (some 7) none 3) "amoxor.w r5 r6 r7 3" = true ∧
    vec 0x667322AF (.amoandW 5 6 7 3) (rec 60 (some 5) (some 6) (some 7) none 3) "amoand.w r5 r6 r7 3" = true ∧
    vec 0x467322AF (.amoorW 5 6 7 3) (rec 61 (some 5) (some 6) (some 7) none 3) "amoor.w r5 r6 r7 3" = true ∧
    vec 0x867322AF (.amominW 5 6 7 3) (rec 62 (some 5) (some 6) (some 7) none 3) "amomin.w r5 r6 r7 3" = true := by decide

theorem test_rows_Atomic_2 :
    vec 0xA67322AF (.amomaxW 5 6 7 3) (rec 63 (some 5) (some 6) (some 7) none 3) "amomax.w r5 r6 r7 3" = true ∧
    vec 0xC67322AF (.amominuW 5 6 7 3) (rec 64 (some 5) (some 6) (some 7) none 3) "amominu.w r5 r6 r7 3" = true ∧
    vec 0xE67322AF (.amomaxuW 5 6 7 3) (rec 65 (some 5) (some 6) (some 7) none 3) "amomaxu.w r5 r6 r7 3" = true ∧
    vec 0x167332AF (.lrD 5 6 7 3) (rec 66 (some 5) (some 6) (some 7) none 3) "lr.d r5 r6 r7 3" = true ∧
    vec 0x1E7332AF (.scD 5 6 7 3) (rec 67 (some 5) (some 6) (some 7) none 3) "sc.d r5 r6 r7 3" = true ∧
    vec 0x0E7332AF (.amoswapD 5 6 7 3) (rec 68 (some 5) (some 6) (some 7) none 3) "amoswap.d r5 r6 r7 3" = true ∧
    vec 0x067332AF (.amoaddD 5 6 7 3) (rec 69 (some 5) (some 6) (some 7) none 3) "amoadd.d r5 r6 r7 3" = true ∧
    vec 0x267332AF (.amoxorD 5 6 7 3) (rec 70 (some 5) (some 6) (some 7) none 3) "amoxor.d r5 r6 r7 3" = true := by decide

theorem test_rows_Atomic_3 :
    vec 0x667332AF (.amoandD 5 6 7 3) (rec 71 (some 5) (some 6) (some 7) none 3) "amoand.d r5 r6 r7 3" = true ∧
    vec 0x467332AF (.amoorD 5 6 7 3) (rec 72 (some 5) (some 6) (some 7) none 3) "amoor.d r5 r6 r7 3" = true ∧
    vec 0x867332AF (.amominD 5 6 7 3) (rec 73 (some 5) (some 6) (some 7) none 3) "amomin.d r5 r6 r7 3" = true ∧
    vec 0xA67332AF (.amomaxD 5 6 7 3) (rec 74 (some 5) (some 6) (some 7) none 3) "amomax.d r5 r6 r7 3" = true ∧
    vec 0xC67332AF (.amominuD 5 6 7 3) (rec 75 (some 5) (some 6) (some 7) none 3) "amominu.d r5 r6 r7 3" = true ∧
    vec 0xE67332AF (.amomaxuD 5 6 7 3) (rec 76 (some 5) (some 6) (some 7) none 3) "amomaxu.d r5 r6 r7 3" = true := by decide

theorem test_rows_Control_1 :
    vec 0xFE7308E3 (.beq 6 7 (-16)) (rec 77 none (some 6) (some 7) none (-16)) "beq r6 r7 -16" = true ∧
    vec 0xFE7318E3 (.bne 6 7 (-16)) (rec 78 none (some 6) (some 7) none (-16)) "bne r6 r7 -16" = true ∧
    vec 0xFE7348E3 (.blt 6 7 (-16)) (rec 79 none (some 6) (some 7) none (-16)) "blt r6 r7 -16" = true ∧
    vec 0xFE7358E3 (.bge 6 7 (-16)) (rec 80 none (some 6) (some 7) none (-16)) "bge r6 r7 -16" = true ∧
    vec 0xFE7368E3 (.bltu 6 7 (-16)) (rec 81 none (some 6) (some 7) none (-16)) "bltu r6 r7 -16" = true ∧
    vec 0xFE7378E3 (.bgeu 6 7 (-16)) (rec 82 none (some 6) (some 7) none (-16)) "bgeu r6 r7 -16" = true ∧
    vec 0xFF9302E7 (.jalr 5 6 (-7)) (rec 83 (some 5) (some 6) none none (-7)) "jalr r5 r6 -7" = true ∧
    vec 0x001002EF (.jal 5 2048) (rec 84 (some 5) none none none 2048) "jal r5 2048" = true := by decide

theorem test_rows_System_1 :
    vec 0xFF9302F3 (.ecall 5 6 (-7)) (rec 85 (some 5) (some 6) none none (-7)) "ecall r5 r6 -7" = true ∧
    vec 0x300312F3 (.csrrw 5 6 768) (rec 86 (some 5) (some 6) none none 768) "csrrw r5 r6 768" = true ∧
    vec 0x300322F3 (.csrrs 5 6 768) (rec 87 (some 5) (some 6) none none 768) "csrrs r5 r6 768" = true ∧
    vec 0x300332F3 (.csrrc 5 6 768) (rec 88 (some 5) (some 6) none none 768) "csrrc r5 r6 768" = true ∧
    vec 0x300352F3 (.csrrwi 5 6 768) (rec 89 (some 5) (some 6) none none 768) "csrrwi r5 r6 768" = true ∧
    vec 0x300362F3 (.csrrsi 5 6 768) (rec 90 (some 5) (some 6) none none 768) "csrrsi r5 r6 768" = true ∧
    vec 0x300372F3 (.csrrci 5 6 768) (rec 91 (some 5) (some 6) none none 768) "csrrci r5 r6 768" = true ∧
    vec 0xFF93028F (.fence 5 6 (-7)) (rec 92 (some 5) (some 6) none none (-7)) "fence r5 r6 -7" = true := by decide

theorem test_rows_System_2 :
    vec 0xFF93128F (.fencei 5 6 (-7)) (rec 93 (some 5) (some 6) none none (-7)) "fencei r5 r6 -7" = true := by decide

/-! ## Immediate extremes and field corners (95_test_vectors.md 2.2) -/

theorem test_corners_1 :
    vec 0x7FF10093 (.addi 1 2 2047) (rec 12 (some 1) (some 2) none none 2047) "addi r1 r2 2047" = true ∧
    vec 0x80010093 (.addi 1 2 (-2048)) (rec 12 (some 1) (some 2) none none (-2048)) "addi r1 r2 -2048" = true ∧
    vec 0x00000013 (.addi 0 0 0) (rec 12 (some 0) (some 0) none none 0) "addi r0 r0" = true ∧
    vec 0xFFFF8F93 (.addi 31 31 (-1)) (rec 12 (some 31) (some 31) none none (-1)) "addi r31 r31 -1" = true ∧
    vec 0x7EA13FA3 (.sd 2 10 2047) (rec 11 none (some 2) (some 10) none 2047) "sd r2 r10 2047" = true ∧
    vec 0x80A13023 (.sd 2 10 (-2048)) (rec 11 none (some 2) (some 10) none (-2048)) "sd r2 r10 -2048" = true ∧
    vec 0x00208FA3 (.sb 1 2 31) (rec 8 none (some 1) (some 2) none 31) "sb r1 r2 31" = true ∧
    vec 0x7E208FE3 (.beq 1 2 4094) (rec 77 none (some 1) (some 2) none 4094) "beq r1 r2 4094" = true := by decide

theorem test_corners_2 :
    vec 0x80208063 (.beq 1 2 (-4096)) (rec 77 none (some 1) (some 2) none (-4096)) "beq r1 r2 -4096" = true ∧
    vec 0x00001163 (.bne 0 0 2) (rec 78 none (some 0) (some 0) none 2) "bne r0 r0 2" = true ∧
    vec 0x0041F0E3 (.bgeu 3 4 2048) (rec 82 none (some 3) (some 4) none 2048) "bgeu r3 r4 2048" = true ∧
    vec 0x7FFFF0EF (.jal 1 1048574) (rec 84 (some 1) none none none 1048574) "jal r1 1048574" = true ∧
    vec 0x800000EF (.jal 1 (-1048576)) (rec 84 (some 1) none none none (-1048576)) "jal r1 -1048576" = true ∧
    vec 0x0010006F (.jal 0 2048) (rec 84 (some 0) none none none 2048) "jal r0 2048" = true ∧
    vec 0x0000006F (.jal 0 0) (rec 84 (some 0) none none none 0) "jal r0" = true ∧
    vec 0x800000B7 (.lui 1 (-2147483648)) (rec 21 (some 1) none none none (-2147483648)) "lui r1 -2147483648" = true := by decide

theorem test_corners_3 :
    vec 0x7FFFF0B7 (.lui 1 2147479552) (rec 21 (some 1) none none none 2147479552) "lui r1 2147479552" = true ∧
    vec 0xFFFFF137 (.lui 2 (-4096)) (rec 21 (some 2) none none none (-4096)) "lui r2 -4096" = true ∧
    vec 0x00000197 (.auipc 3 0) (rec 22 (some 3) none none none 0) "auipc r3" = true ∧
    vec 0x003120AF (.amoaddW 1 2 3 0) (rec 58 (some 1) (some 2) (some 3) none 0) "amoadd.w r1 r2 r3" = true ∧
    vec 0x0E3130AF (.amoswapD 1 2 3 3) (rec 68 (some 1) (some 2) (some 3) none 3) "amoswap.d r1 r2 r3 3" = true ∧
    vec 0xE7FFAFAF (.amomaxuW 31 31 31 3) (rec 65 (some 31) (some 31) (some 31) none 3) "amomaxu.w r31 r31 r31 3" = true ∧
    vec 0x03F09093 (.slli 1 1 63) (rec 18 (some 1) (some 1) none none 63) "slli r1 r1 63" = true ∧
    vec 0x4000D093 (.srai 1 1 0) (rec 20 (some 1) (some 1) none none 0) "srai r1 r1" = true := by decide

theorem test_corners_4 :
    vec 0x43F0D09B (.sraiw 1 1 63) (rec 26 (some 1) (some 1) none none 63) "sraiw r1 r1 63" = true ∧
    vec 0x7FF110F3 (.csrrw 1 2 2047) (rec 86 (some 1) (some 2) none none 2047) "csrrw r1 r2 2047" = true ∧
    vec 0xC0002573 (.csrrs 10 0 (-1024)) (rec 87 (some 10) (some 0) none none (-1024)) "csrrs r10 r0 -1024" = true ∧
    vec 0x340FD073 (.csrrwi 0 31 832) (rec 89 (some 0) (some 31) none none 832) "csrrwi r0 r31 832" = true ∧
    vec 0x0FF0000F (.fence 0 0 255) (rec 92 (some 0) (some 0) none none 255) "fence r0 r0 255" = true ∧
    vec 0x8330000F (.fence 0 0 (-1997)) (rec 92 (some 0) (some 0) none none (-1997)) "fence r0 r0 -1997" = true ∧
    vec 0x105120AF (.lrW 1 2 5 0) (rec 55 (some 1) (some 2) (some 5) none 0) "lr.w r1 r2 r5" = true ∧
    vec 0x00100073 (.ecall 0 0 1) (rec 85 (some 0) (some 0) none none 1) "ecall r0 r0 1" = true := by decide

theorem test_corners_5 :
    vec 0x30200073 (.ecall 0 0 770) (rec 85 (some 0) (some 0) none none 770) "ecall r0 r0 770" = true ∧
    vec 0x00000073 (.ecall 0 0 0) (rec 85 (some 0) (some 0) none none 0) "ecall r0 r0" = true ∧
    vec 0x0000F067 (.jalr 0 1 0) (rec 83 (some 0) (some 1) none none 0) "jalr r0 r1" = true ∧
    vec 0xBE009093 (.slli 1 1 32) (rec 18 (some 1) (some 1) none none 32) "slli r1 r1 32" = true ∧
    vec 0x40209093 (.slli 1 1 2) (rec 18 (some 1) (some 1) none none 2) "slli r1 r1 2" = true := by decide

/-! ## Length tests, priorities and undefined words (95_test_vectors.md 2.3) -/

theorem test_outcomes_1 :
    answers (supply []) .partialInput = true ∧
    answers (supply [0x13]) .partialInput = true ∧
    answers (supply [0x01]) .partialInput = true ∧
    answers (supply [0x1F]) .partialInput = true ∧
    answers (supply [0x01, 0x00]) .undefined = true ∧
    answers (supply [0x02, 0x00, 0x00]) .undefined = true ∧
    answers (supply [0x00, 0x00]) .undefined = true ∧
    answers (supply [0x1F, 0x00]) .undefined = true := by decide

theorem test_outcomes_2 :
    answers (supply [0x3F, 0x00, 0x00, 0x00]) .undefined = true ∧
    answers (supply [0x7F, 0x00, 0x00, 0x00, 0x00, 0x00, 0x00, 0x00]) .undefined = true ∧
    answers (supply [0x13, 0x00]) .partialInput = true ∧
    answers (supply [0x13, 0x05, 0x50]) .partialInput = true ∧
    answers (supply [0x93, 0x00, 0x51, 0x00, 0xFF, 0xFF]) (.ok 4 (rec 12 (some 1) (some 2) none none 5)) = true ∧
    answers (supply [0x07, 0x00, 0x00, 0x00]) .undefined = true ∧
    answers (supply [0x0B, 0x00, 0x00, 0x00]) .undefined = true ∧
    answers (supply [0x53, 0x00, 0x00, 0x00]) .undefined = true := by decide

theorem test_outcomes_3 :
    answers (supply [0x03, 0x70, 0x00, 0x00]) .undefined = true ∧
    answers (supply [0x63, 0x30, 0x00, 0x00]) .undefined = true ∧
    answers (supply [0x73, 0x40, 0x00, 0x00]) .undefined = true ∧
    answers (supply [0x0F, 0x20, 0x00, 0x00]) .undefined = true ∧
    answers (supply [0x1B, 0x20, 0x00, 0x00]) .undefined = true ∧
    answers (supply [0x33, 0x00, 0x00, 0x22]) .undefined = true ∧
    answers (supply [0x3B, 0x00, 0x00, 0x04]) .undefined = true ∧
    answers (supply [0x3B, 0x10, 0x00, 0x02]) .undefined = true := by decide

theorem test_outcomes_4 :
    answers (supply [0x2F, 0x40, 0x00, 0x00]) .undefined = true ∧
    answers (supply [0x2F, 0x20, 0x00, 0x28]) .undefined = true ∧
    answers (supply [0x5B, 0x70, 0x00, 0x00]) .undefined = true ∧
    answers (supply [0xFF, 0xFF, 0xFF, 0xFF]) .undefined = true ∧
    answers (supply [0x00, 0x00, 0x00, 0x00]) .undefined = true := by decide

/-! ## Formatter vectors (95_test_vectors.md 2.4) -/

theorem test_texts_1 :
    boundedText 0 (fullText nameRom (rec 12 (some 1) (some 2) none none 5)) = [] ∧
    boundedText 1 (fullText nameRom (rec 12 (some 1) (some 2) none none 5)) = ascii "" ++ [0x00] ∧
    boundedText 2 (fullText nameRom (rec 12 (some 1) (some 2) none none 5)) = ascii "a" ++ [0x00] ∧
    boundedText 12 (fullText nameRom (rec 12 (some 1) (some 2) none none 5)) = ascii "addi r1 r2 " ++ [0x00] ∧
    boundedText 13 (fullText nameRom (rec 12 (some 1) (some 2) none none 5)) = ascii "addi r1 r2 5" ++ [0x00] ∧
    boundedText 38 (fullText nameRom (rec 12 (some 1) (some 2) none none 5)) = ascii "addi r1 r2 5" ++ [0x00] ∧
    boundedText 0 (fullText nameRom (rec 93 none none none none 0)) = [] ∧
    boundedText 1 (fullText nameRom (rec 93 none none none none 0)) = ascii "" ++ [0x00] := by decide

theorem test_texts_2 :
    boundedText 6 (fullText nameRom (rec 93 none none none none 0)) = ascii "fence" ++ [0x00] ∧
    boundedText 7 (fullText nameRom (rec 93 none none none none 0)) = ascii "fencei" ++ [0x00] ∧
    boundedText 0 (fullText nameRom (rec 0 (some 1) (some 2) (some 3) none 9)) = [] ∧
    boundedText 1 (fullText nameRom (rec 0 (some 1) (some 2) (some 3) none 9)) = ascii "" ++ [0x00] ∧
    boundedText 9 (fullText nameRom (rec 0 (some 1) (some 2) (some 3) none 9)) = ascii "<invalid" ++ [0x00] ∧
    boundedText 10 (fullText nameRom (rec 0 (some 1) (some 2) (some 3) none 9)) = ascii "<invalid>" ++ [0x00] ∧
    boundedText 38 (fullText nameRom (rec 0 (some 1) (some 2) (some 3) none 9)) = ascii "<invalid>" ++ [0x00] ∧
    boundedText 10 (fullText nameRom (rec 94 none none none none 0)) = ascii "<invalid>" ++ [0x00] := by decide

theorem test_texts_3 :
    boundedText 10 (fullText nameRom (rec 255 (some 31) none none none 0)) = ascii "<invalid>" ++ [0x00] ∧
    boundedText 38 (fullText nameRom (rec 27 (some 1) (some 2) (some 3) (some 4) 0)) = ascii "add r1 r2 r3 r4" ++ [0x00] ∧
    boundedText 38 (fullText nameRom (rec 12 none none none none (-2147483648))) = ascii "addi -2147483648" ++ [0x00] ∧
    boundedText 38 (fullText nameRom (rec 12 (some 0) none none none 2147483647)) = ascii "addi r0 2147483647" ++ [0x00] ∧
    boundedText 37 (fullText nameRom (rec 65 (some 31) (some 31) (some 31) (some 31) (-2147483648))) = ascii "amomaxu.w r31 r31 r31 r31 -214748364" ++ [0x00] ∧
    boundedText 38 (fullText nameRom (rec 65 (some 31) (some 31) (some 31) (some 31) (-2147483648))) = ascii "amomaxu.w r31 r31 r31 r31 -2147483648" ++ [0x00] ∧
    boundedText 39 (fullText nameRom (rec 65 (some 31) (some 31) (some 31) (some 31) (-2147483648))) = ascii "amomaxu.w r31 r31 r31 r31 -2147483648" ++ [0x00] ∧
    boundedText 5 (fullText nameRom (rec 21 (some 1) none none none (-2147483648))) = ascii "lui " ++ [0x00] := by decide

theorem test_texts_4 :
    boundedText 6 (fullText nameRom (rec 21 (some 1) none none none (-2147483648))) = ascii "lui r" ++ [0x00] ∧
    boundedText 7 (fullText nameRom (rec 21 (some 1) none none none (-2147483648))) = ascii "lui r1" ++ [0x00] ∧
    boundedText 18 (fullText nameRom (rec 21 (some 1) none none none (-2147483648))) = ascii "lui r1 -214748364" ++ [0x00] ∧
    boundedText 19 (fullText nameRom (rec 21 (some 1) none none none (-2147483648))) = ascii "lui r1 -2147483648" ++ [0x00] ∧
    boundedText 38 (fullText nameRom (rec 28 none none (some 7) none (-1))) = ascii "sub r7 -1" ++ [0x00] := by decide

/-- 95_test_vectors.md P5: a format of a buffer of `#` cells, at capacities 0, 1, 4, 9 and 12. -/
def amoaddRec : Record := rec 58 (some 10) (some 11) (some 12) none 3

theorem test_P5 :
    prints (page amoaddRec 0) (ascii "############") = true ∧
    prints (page amoaddRec 1) ([0x00] ++ ascii "###########") = true ∧
    prints (page amoaddRec 4) (ascii "amo" ++ [0x00] ++ ascii "########") = true ∧
    prints (page amoaddRec 9) (ascii "amoadd.w" ++ [0x00] ++ ascii "###") = true ∧
    prints (page amoaddRec 12) (ascii "amoadd.w r1" ++ [0x00]) = true := by decide

/-! ## Words written out field by field from the encoding of a row (30_encoding.md R86 to R93) -/

/-- LW r5 r6 -7 (R155, shape I). -/
theorem test_bits_lw : decodeTableWord 32
    (0b111111111001#12 ++ 0b00110#5 ++ 0b010#3 ++ 0b00101#5 ++ 0b00000#5 ++ 0b11#2).toNat = some (.lw 5 6 (-7)) := by
  decide

/-- SW r6 r7 -8 (R162, shape S). -/
theorem test_bits_sw : decodeTableWord 32
    (0b1111111#7 ++ 0b00111#5 ++ 0b00110#5 ++ 0b010#3 ++ 0b11000#5 ++ 0b01000#5 ++ 0b11#2).toNat =
      some (.sw 6 7 (-8)) := by
  decide

/-- SRAIW r1 r2 63 (R187, shape SH). -/
theorem test_bits_sraiw : decodeTableWord 32
    (0b010000#6 ++ 0b111111#6 ++ 0b00010#5 ++ 0b101#3 ++ 0b00001#5 ++ 0b00110#5 ++ 0b11#2).toNat =
      some (.sraiw 1 2 63) := by
  decide

/-- AUIPC r3 0x12345000 (R183, shape U). -/
theorem test_bits_auipc : decodeTableWord 32
    (0b00010010001101000101#20 ++ 0b00011#5 ++ 0b00101#5 ++ 0b11#2).toNat = some (.auipc 3 0x12345000) := by
  decide

/-- REMUW r29 r30 r31 (R229, shape R). -/
theorem test_bits_remuw : decodeTableWord 32
    (0b0000001#7 ++ 0b11111#5 ++ 0b11110#5 ++ 0b111#3 ++ 0b11101#5 ++ 0b01110#5 ++ 0b11#2).toNat =
      some (.remuw 29 30 31) := by
  decide

/-- AMOMAX.D r1 r2 r3 with ordering 2 (R261, shape AMO). -/
theorem test_bits_amomaxD : decodeTableWord 32
    (0b10100#5 ++ 0b10#2 ++ 0b00011#5 ++ 0b00010#5 ++ 0b011#3 ++ 0b00001#5 ++ 0b01011#5 ++ 0b11#2).toNat =
      some (.amomaxD 1 2 3 2) := by
  decide

/-- BLTU r4 r5, with imm[12] = 1, imm[11] = 0, imm[10:5] = 100101, imm[4:1] = 1010 (R277, shape B). -/
theorem test_bits_bltu : decodeTableWord 32
    (0b1#1 ++ 0b100101#6 ++ 0b00101#5 ++ 0b00100#5 ++ 0b110#3 ++ 0b1010#4 ++ 0b0#1 ++ 0b11000#5 ++ 0b11#2).toNat =
      some (.bltu 4 5 (0b1010010110100 - 8192)) := by
  decide

/-- JAL r7 with imm[20] = 0, imm[19:12] = 10000001, imm[11] = 1, imm[10:1] = 1000000001 (R280, shape J). -/
theorem test_bits_jal : decodeTableWord 32
    (0b0#1 ++ 0b1000000001#10 ++ 0b1#1 ++ 0b10000001#8 ++ 0b00111#5 ++ 0b11011#5 ++ 0b11#2).toNat =
      some (.jal 7 0b10000001110000000010) := by
  decide

/-- CSRRSI r9 17 0x305 (R298, shape I). -/
theorem test_bits_csrrsi : decodeTableWord 32
    (0b001100000101#12 ++ 0b10001#5 ++ 0b110#3 ++ 0b01001#5 ++ 0b11100#5 ++ 0b11#2).toNat =
      some (.csrrsi 9 17 0x305) := by
  decide

/-- The encoder writes the same word. -/
theorem test_encode : encode (.bltu 4 5 (0b1010010110100 - 8192)) =
    0b1#1 ++ 0b100101#6 ++ 0b00101#5 ++ 0b00100#5 ++ 0b110#3 ++ 0b1010#4 ++ 0b0#1 ++ 0b11000#5 ++ 0b11#2 := by
  decide

/-! ## Single steps -/

/-- The fetch word runs as the first request after reset. -/
theorem test_withFetchWord : answers (State.reset.withFetchWord 32 0x00510093)
    (.ok 4 (rec 12 (some 1) (some 2) none none 5)) = true := by decide

/-- The Decoder only reads: 60_exceptions.md R353 leaves the storages alone after a diagnostic. -/
theorem test_undefined_touches_nothing :
    goesTo (supply [0x01, 0x00]) { supply [0x01, 0x00] with
      pending := [], draws := 1, decoded := some .undefined } = true := by decide

/-- A decode in the middle of a storage (20_memory.md R50): `base` selects the buffer. -/
theorem test_decode_at_base :
    answers { supply [0x01, 0x45, 0x93, 0x00, 0x51, 0x00] with pending := [.decode { base := 2, inLen := 4 }] }
      (.ok 4 (rec 12 (some 1) (some 2) none none 5)) = true := by decide

/-- The operand multiplexer of 40_decode_pipeline.md R131 gives the record that the row's meaning delivers. -/
theorem test_operandMux : answers (supply (wordBytes 0x067322AF)) (.ok 4 (operandMux .amoaddW 0x067322AF)) = true := by
  decide

/-- 95_test_vectors.md P2, first turn: the harness skips 2 bytes at a compressed halfword. -/
theorem test_P2_turn_1 :
    (Walk.turn 6 ⟨supply [0x01, 0x45, 0x93, 0x00, 0x51, 0x00], 0, [], false⟩).off = 2 ∧
    (Walk.turn 6 ⟨supply [0x01, 0x45, 0x93, 0x00, 0x51, 0x00], 0, [], false⟩).out = [ascii "?"] := by decide

/-- 95_test_vectors.md P2, second turn: the word of scenario S1 and its text. -/
theorem test_P2_turn_2 :
    (Walk.turn 6 ⟨supply [0x01, 0x45, 0x93, 0x00, 0x51, 0x00], 2, [], false⟩).off = 6 ∧
    (Walk.turn 6 ⟨supply [0x01, 0x45, 0x93, 0x00, 0x51, 0x00], 2, [], false⟩).out = [ascii "addi r1 r2 5"] := by decide

/-- 95_test_vectors.md P1, last turn: no byte is left, so the harness stops. -/
theorem test_P1_turn_last :
    (Walk.turn 4 ⟨supply [0x67, 0x80, 0x00, 0x00], 4, [], false⟩).stopped = true := by decide

/-- 95_test_vectors.md P3, over-length prefix: the harness skips 4 bytes. -/
theorem test_P3_turn_overlength :
    (Walk.turn 4 ⟨supply [0x3F, 0x00, 0x00, 0x00], 0, [], false⟩).off = 4 := by decide

/-! ## A witness for each statement with hypotheses -/

/-- The caller's request in a state made by `supply` or `page`. -/
abbrev S1 : State := supply [0x93, 0x00, 0x51, 0x00]
abbrev q1 : DecodeReq := { base := 0, inLen := 4 }
abbrev addiRec : Record := rec 12 (some 1) (some 2) none none 5
abbrev f1 : Nat → Byte := bytesAt [0x93, 0x00, 0x51, 0x00]

/-- One instruction of each shape, each at an extreme immediate. -/
theorem witness_DecodeOfEncodeIsTheInstruction :
    ([.addi 1 2 (-2048), .sd 2 10 2047, .beq 1 2 4094, .bge 31 30 (-4096), .lui 1 0x80000000, .jal 1 1048574,
      .jal 0 (-1048576), .amoswapD 1 2 3 3, .sraiw 1 1 63, .remuw 31 30 29] : List Instr).all (fun i =>
        i.wellFormed && decide (wordAt (bytesAt (wordBytes (encode i))) = encode i)) = true := by decide

/-- The word of 95_test_vectors.md 2.2 with unexamined bits set. -/
theorem witness_DecodeKeepsEveryExaminedBit :
    decode mnemRom 4 (bytesAt [0x93, 0x90, 0x00, 0xBE]) = .ok (.slli 1 1 32) ∧
    decode mnemRom 4 (bytesAt [0x67, 0xF0, 0x00, 0x00]) = .ok (.jalr 0 1 0) := by decide

theorem witness_inv_S1 : Inv S1 := ⟨by decide, by decide, rfl, rfl, trivial⟩

theorem witness_StepKeepsTheInvariant : Inv S1 ∧ ∃ t, step S1 = .next t ∧ t.decoded = some (.ok 4 addiRec) :=
  ⟨witness_inv_S1, _, rfl, by decide⟩

theorem witness_keeps_S1 : KeptDuties S1 q1 := ⟨rfl, rfl, by decide⟩

theorem witness_StepRunsTheDecodedInstruction :
    S1.pending = .decode q1 :: [] ∧ decode S1.mnemRom q1.inLen (inByte S1 q1) = .ok (.addi 1 2 5) ∧ KeptDuties S1 q1 :=
  ⟨rfl, by decide, witness_keeps_S1⟩

/-- Each clause at a boundary length: 1; 2 with a compressed and with an over-length byte; 2 and 3 with neither; 4 with
no row, and with one. -/
theorem witness_DecodeTestsInOrder :
    (1 < 2) ∧ (2 ≤ 2 ∧ Compressed 0x01) ∧ (2 ≤ 2 ∧ ¬Compressed 0x1F ∧ OverLength 0x1F) ∧
    (2 ≤ 3 ∧ 3 < 4 ∧ ¬Compressed 0x13 ∧ ¬OverLength 0x13) ∧
    (4 ≤ 4 ∧ ¬Compressed 0x07 ∧ ¬OverLength 0x07 ∧ romLookup mnemRom 0x01 0 0 = none) ∧
    (4 ≤ 4 ∧ ¬Compressed (f1 0) ∧ ¬OverLength (f1 0) ∧ romLookup mnemRom ((wordAt f1).extractLsb' 2 5)
      ((wordAt f1).extractLsb' 12 3) ((wordAt f1).extractLsb' 25 7) = some .addi) := by decide

theorem witness_PartialIsAnsweredExactlyWhen :
    (supply [0x13, 0x05, 0x50]).pending = .decode { base := 0, inLen := 3 } :: [] := rfl

theorem witness_UndefinedIsAnsweredExactlyWhen :
    (supply [0x01, 0x00]).pending = .decode { base := 0, inLen := 2 } :: [] := rfl

/-- Each clause: lengths 0 and 1; 2 and 3; 4 and 6; 4 with a failed length test; a decode that succeeds. -/
theorem witness_DecodeReadsOnlyItsCells :
    (0 < 2 ∧ 1 < 2) ∧ (2 ≤ 2 ∧ 2 < 4 ∧ 2 ≤ 3 ∧ 3 < 4 ∧ bytesAt [0x13, 0x01] 0 = bytesAt [0x13, 0x02] 0) ∧
    (4 ≤ 4 ∧ 4 ≤ 6 ∧ ∀ i, i < 4 → f1 i = bytesAt [0x93, 0x00, 0x51, 0x00, 0xFF, 0xFF] i) ∧
    (bytesAt [0x1F] 0 = bytesAt [0x1F, 0x22, 0x33, 0x44] 0 ∧ (Compressed 0x1F ∨ OverLength 0x1F)) ∧
    decode mnemRom 4 f1 = .ok (.addi 1 2 5) := by decide

theorem witness_RowsDecodeWhateverTheirOperands :
    (⟨0x04, some 0, .any, .addi⟩ : MnemRow) ∈ mnemRom ∧ 4 ≤ 4 ∧ ¬Compressed (f1 0) ∧ ¬OverLength (f1 0) ∧
    (⟨0x04, some 0, .any, .addi⟩ : MnemRow).selects ((wordAt f1).extractLsb' 2 5) ((wordAt f1).extractLsb' 12 3)
      ((wordAt f1).extractLsb' 25 7) = true := by decide

theorem witness_RomRowsAreExclusive :
    (⟨0x04, some 5, .bit5 true, .srai⟩ : MnemRow) ∈ mnemRom ∧
    (⟨0x04, some 5, .bit5 true, .srai⟩ : MnemRow).selects 0x04 5 0x20 = true ∧
    (∀ row ∈ mnemRom, row.selects 0x0C 1 0x20 = false) := by decide

/-- A complete word of each class: no row, a listed opcode with a missing funct3, and a decoded one. -/
theorem witness_UndefinedWordsAreTheListedOnes :
    4 ≤ 4 ∧ decode mnemRom 4 (bytesAt [0x53, 0x00, 0x00, 0x00]) = .undefinedWord .noRow ∧
    decode mnemRom 4 (bytesAt [0x03, 0x70, 0x00, 0x00]) = .undefinedWord .noRow ∧
    decode mnemRom 4 (bytesAt [0x3B, 0x10, 0x00, 0x02]) = .undefinedWord .noRow ∧
    decode mnemRom 4 (bytesAt [0x2F, 0x20, 0x00, 0x28]) = .undefinedWord .noRow ∧
    decode mnemRom 4 f1 = .ok (.addi 1 2 5) := by decide

/-- A buffer that meets each row's match (95_test_vectors.md 2.1). -/
theorem witness_LoadRows : 4 ≤ 4 ∧
    (wordAt (bytesAt (wordBytes 0xFF930283)) &&& 0x0000707F : Word) = 0x00000003 ∧
    (wordAt (bytesAt (wordBytes 0xFF931283)) &&& 0x0000707F : Word) = 0x00001003 ∧
    (wordAt (bytesAt (wordBytes 0xFF932283)) &&& 0x0000707F : Word) = 0x00002003 ∧
    (wordAt (bytesAt (wordBytes 0xFF933283)) &&& 0x0000707F : Word) = 0x00003003 ∧
    (wordAt (bytesAt (wordBytes 0xFF934283)) &&& 0x0000707F : Word) = 0x00004003 ∧
    (wordAt (bytesAt (wordBytes 0xFF935283)) &&& 0x0000707F : Word) = 0x00005003 ∧
    (wordAt (bytesAt (wordBytes 0xFF936283)) &&& 0x0000707F : Word) = 0x00006003 := by decide

/-- A buffer that meets each row's match (95_test_vectors.md 2.1). -/
theorem witness_StoreRows : 4 ≤ 4 ∧
    (wordAt (bytesAt (wordBytes 0xFE730C23)) &&& 0x0000707F : Word) = 0x00000023 ∧
    (wordAt (bytesAt (wordBytes 0xFE731C23)) &&& 0x0000707F : Word) = 0x00001023 ∧
    (wordAt (bytesAt (wordBytes 0xFE732C23)) &&& 0x0000707F : Word) = 0x00002023 ∧
    (wordAt (bytesAt (wordBytes 0xFE733C23)) &&& 0x0000707F : Word) = 0x00003023 := by decide

/-- A buffer that meets each row's match (95_test_vectors.md 2.1). -/
theorem witness_ImmediateRows : 4 ≤ 4 ∧
    (wordAt (bytesAt (wordBytes 0xFF930293)) &&& 0x0000707F : Word) = 0x00000013 ∧
    (wordAt (bytesAt (wordBytes 0xFF932293)) &&& 0x0000707F : Word) = 0x00002013 ∧
    (wordAt (bytesAt (wordBytes 0xFF933293)) &&& 0x0000707F : Word) = 0x00003013 ∧
    (wordAt (bytesAt (wordBytes 0xFF934293)) &&& 0x0000707F : Word) = 0x00004013 ∧
    (wordAt (bytesAt (wordBytes 0xFF936293)) &&& 0x0000707F : Word) = 0x00006013 ∧
    (wordAt (bytesAt (wordBytes 0xFF937293)) &&& 0x0000707F : Word) = 0x00007013 ∧
    (wordAt (bytesAt (wordBytes 0xFF93029B)) &&& 0x0000707F : Word) = 0x0000001B := by decide

/-- A buffer that meets each row's match (95_test_vectors.md 2.1). -/
theorem witness_ShiftImmediateRows : 4 ≤ 4 ∧
    (wordAt (bytesAt (wordBytes 0x00D31293)) &&& 0x0000707F : Word) = 0x00001013 ∧
    (wordAt (bytesAt (wordBytes 0x00D35293)) &&& 0x4000707F : Word) = 0x00005013 ∧
    (wordAt (bytesAt (wordBytes 0x40D35293)) &&& 0x4000707F : Word) = 0x40005013 ∧
    (wordAt (bytesAt (wordBytes 0x00D3129B)) &&& 0x0000707F : Word) = 0x0000101B ∧
    (wordAt (bytesAt (wordBytes 0x00D3529B)) &&& 0x4000707F : Word) = 0x0000501B ∧
    (wordAt (bytesAt (wordBytes 0x40D3529B)) &&& 0x4000707F : Word) = 0x4000501B := by decide

/-- A buffer that meets each row's match (95_test_vectors.md 2.1). -/
theorem witness_UpperImmediateRows : 4 ≤ 4 ∧
    (wordAt (bytesAt (wordBytes 0xABCDE2B7)) &&& 0x0000007F : Word) = 0x00000037 ∧
    (wordAt (bytesAt (wordBytes 0xABCDE297)) &&& 0x0000007F : Word) = 0x00000017 := by decide

/-- A buffer that meets each row's match (95_test_vectors.md 2.1). -/
theorem witness_RegisterRows : 4 ≤ 4 ∧
    (wordAt (bytesAt (wordBytes 0x007302B3)) &&& 0xFE00707F : Word) = 0x00000033 ∧
    (wordAt (bytesAt (wordBytes 0x407302B3)) &&& 0xFE00707F : Word) = 0x40000033 ∧
    (wordAt (bytesAt (wordBytes 0x007312B3)) &&& 0xFE00707F : Word) = 0x00001033 ∧
    (wordAt (bytesAt (wordBytes 0x007322B3)) &&& 0xFE00707F : Word) = 0x00002033 ∧
    (wordAt (bytesAt (wordBytes 0x007332B3)) &&& 0xFE00707F : Word) = 0x00003033 ∧
    (wordAt (bytesAt (wordBytes 0x007342B3)) &&& 0xFE00707F : Word) = 0x00004033 ∧
    (wordAt (bytesAt (wordBytes 0x007352B3)) &&& 0xFE00707F : Word) = 0x00005033 ∧
    (wordAt (bytesAt (wordBytes 0x407352B3)) &&& 0xFE00707F : Word) = 0x40005033 ∧
    (wordAt (bytesAt (wordBytes 0x007362B3)) &&& 0xFE00707F : Word) = 0x00006033 ∧
    (wordAt (bytesAt (wordBytes 0x007372B3)) &&& 0xFE00707F : Word) = 0x00007033 := by decide

/-- A buffer that meets each row's match (95_test_vectors.md 2.1). -/
theorem witness_MultiplyDivideRows : 4 ≤ 4 ∧
    (wordAt (bytesAt (wordBytes 0x027302B3)) &&& 0xFE00707F : Word) = 0x02000033 ∧
    (wordAt (bytesAt (wordBytes 0x027312B3)) &&& 0xFE00707F : Word) = 0x02001033 ∧
    (wordAt (bytesAt (wordBytes 0x027322B3)) &&& 0xFE00707F : Word) = 0x02002033 ∧
    (wordAt (bytesAt (wordBytes 0x027332B3)) &&& 0xFE00707F : Word) = 0x02003033 ∧
    (wordAt (bytesAt (wordBytes 0x027342B3)) &&& 0xFE00707F : Word) = 0x02004033 ∧
    (wordAt (bytesAt (wordBytes 0x027352B3)) &&& 0xFE00707F : Word) = 0x02005033 ∧
    (wordAt (bytesAt (wordBytes 0x027362B3)) &&& 0xFE00707F : Word) = 0x02006033 ∧
    (wordAt (bytesAt (wordBytes 0x027372B3)) &&& 0xFE00707F : Word) = 0x02007033 := by decide

/-- A buffer that meets each row's match (95_test_vectors.md 2.1). -/
theorem witness_NarrowRegisterRows : 4 ≤ 4 ∧
    (wordAt (bytesAt (wordBytes 0x007302BB)) &&& 0xFE00707F : Word) = 0x0000003B ∧
    (wordAt (bytesAt (wordBytes 0x407302BB)) &&& 0xFE00707F : Word) = 0x4000003B ∧
    (wordAt (bytesAt (wordBytes 0x007312BB)) &&& 0xFE00707F : Word) = 0x0000103B ∧
    (wordAt (bytesAt (wordBytes 0x007352BB)) &&& 0xFE00707F : Word) = 0x0000503B ∧
    (wordAt (bytesAt (wordBytes 0x407352BB)) &&& 0xFE00707F : Word) = 0x4000503B ∧
    (wordAt (bytesAt (wordBytes 0x027302BB)) &&& 0xFE00707F : Word) = 0x0200003B ∧
    (wordAt (bytesAt (wordBytes 0x027342BB)) &&& 0xFE00707F : Word) = 0x0200403B ∧
    (wordAt (bytesAt (wordBytes 0x027352BB)) &&& 0xFE00707F : Word) = 0x0200503B ∧
    (wordAt (bytesAt (wordBytes 0x027362BB)) &&& 0xFE00707F : Word) = 0x0200603B ∧
    (wordAt (bytesAt (wordBytes 0x027372BB)) &&& 0xFE00707F : Word) = 0x0200703B := by decide

/-- A buffer that meets each row's match (95_test_vectors.md 2.1). -/
theorem witness_AtomicWordRows : 4 ≤ 4 ∧
    (wordAt (bytesAt (wordBytes 0x167322AF)) &&& 0xF800707F : Word) = 0x1000202F ∧
    (wordAt (bytesAt (wordBytes 0x1E7322AF)) &&& 0xF800707F : Word) = 0x1800202F ∧
    (wordAt (bytesAt (wordBytes 0x0E7322AF)) &&& 0xF800707F : Word) = 0x0800202F ∧
    (wordAt (bytesAt (wordBytes 0x067322AF)) &&& 0xF800707F : Word) = 0x0000202F ∧
    (wordAt (bytesAt (wordBytes 0x267322AF)) &&& 0xF800707F : Word) = 0x2000202F ∧
    (wordAt (bytesAt (wordBytes 0x667322AF)) &&& 0xF800707F : Word) = 0x6000202F ∧
    (wordAt (bytesAt (wordBytes 0x467322AF)) &&& 0xF800707F : Word) = 0x4000202F ∧
    (wordAt (bytesAt (wordBytes 0x867322AF)) &&& 0xF800707F : Word) = 0x8000202F ∧
    (wordAt (bytesAt (wordBytes 0xA67322AF)) &&& 0xF800707F : Word) = 0xA000202F ∧
    (wordAt (bytesAt (wordBytes 0xC67322AF)) &&& 0xF800707F : Word) = 0xC000202F ∧
    (wordAt (bytesAt (wordBytes 0xE67322AF)) &&& 0xF800707F : Word) = 0xE000202F := by decide

/-- A buffer that meets each row's match (95_test_vectors.md 2.1). -/
theorem witness_AtomicDoubleRows : 4 ≤ 4 ∧
    (wordAt (bytesAt (wordBytes 0x167332AF)) &&& 0xF800707F : Word) = 0x1000302F ∧
    (wordAt (bytesAt (wordBytes 0x1E7332AF)) &&& 0xF800707F : Word) = 0x1800302F ∧
    (wordAt (bytesAt (wordBytes 0x0E7332AF)) &&& 0xF800707F : Word) = 0x0800302F ∧
    (wordAt (bytesAt (wordBytes 0x067332AF)) &&& 0xF800707F : Word) = 0x0000302F ∧
    (wordAt (bytesAt (wordBytes 0x267332AF)) &&& 0xF800707F : Word) = 0x2000302F ∧
    (wordAt (bytesAt (wordBytes 0x667332AF)) &&& 0xF800707F : Word) = 0x6000302F ∧
    (wordAt (bytesAt (wordBytes 0x467332AF)) &&& 0xF800707F : Word) = 0x4000302F ∧
    (wordAt (bytesAt (wordBytes 0x867332AF)) &&& 0xF800707F : Word) = 0x8000302F ∧
    (wordAt (bytesAt (wordBytes 0xA67332AF)) &&& 0xF800707F : Word) = 0xA000302F ∧
    (wordAt (bytesAt (wordBytes 0xC67332AF)) &&& 0xF800707F : Word) = 0xC000302F ∧
    (wordAt (bytesAt (wordBytes 0xE67332AF)) &&& 0xF800707F : Word) = 0xE000302F := by decide

/-- A buffer that meets each row's match (95_test_vectors.md 2.1). -/
theorem witness_BranchRows : 4 ≤ 4 ∧
    (wordAt (bytesAt (wordBytes 0xFE7308E3)) &&& 0x0000707F : Word) = 0x00000063 ∧
    (wordAt (bytesAt (wordBytes 0xFE7318E3)) &&& 0x0000707F : Word) = 0x00001063 ∧
    (wordAt (bytesAt (wordBytes 0xFE7348E3)) &&& 0x0000707F : Word) = 0x00004063 ∧
    (wordAt (bytesAt (wordBytes 0xFE7358E3)) &&& 0x0000707F : Word) = 0x00005063 ∧
    (wordAt (bytesAt (wordBytes 0xFE7368E3)) &&& 0x0000707F : Word) = 0x00006063 ∧
    (wordAt (bytesAt (wordBytes 0xFE7378E3)) &&& 0x0000707F : Word) = 0x00007063 := by decide

/-- A buffer that meets each row's match (95_test_vectors.md 2.1). -/
theorem witness_JumpRows : 4 ≤ 4 ∧
    (wordAt (bytesAt (wordBytes 0xFF9302E7)) &&& 0x0000007F : Word) = 0x00000067 ∧
    (wordAt (bytesAt (wordBytes 0x001002EF)) &&& 0x0000007F : Word) = 0x0000006F := by decide

/-- A buffer that meets each row's match (95_test_vectors.md 2.1). -/
theorem witness_SystemRows : 4 ≤ 4 ∧
    (wordAt (bytesAt (wordBytes 0xFF9302F3)) &&& 0x0000707F : Word) = 0x00000073 ∧
    (wordAt (bytesAt (wordBytes 0x300312F3)) &&& 0x0000707F : Word) = 0x00001073 ∧
    (wordAt (bytesAt (wordBytes 0x300322F3)) &&& 0x0000707F : Word) = 0x00002073 ∧
    (wordAt (bytesAt (wordBytes 0x300332F3)) &&& 0x0000707F : Word) = 0x00003073 ∧
    (wordAt (bytesAt (wordBytes 0x300352F3)) &&& 0x0000707F : Word) = 0x00005073 ∧
    (wordAt (bytesAt (wordBytes 0x300362F3)) &&& 0x0000707F : Word) = 0x00006073 ∧
    (wordAt (bytesAt (wordBytes 0x300372F3)) &&& 0x0000707F : Word) = 0x00007073 := by decide

/-- A buffer that meets each row's match (95_test_vectors.md 2.1). -/
theorem witness_FenceRows : 4 ≤ 4 ∧
    (wordAt (bytesAt (wordBytes 0xFF93028F)) &&& 0x0000707F : Word) = 0x0000000F ∧
    (wordAt (bytesAt (wordBytes 0xFF93128F)) &&& 0x0000707F : Word) = 0x0000100F := by decide

/-- A word for each clause that names an extreme (95_test_vectors.md 2.2). -/
theorem witness_ImmediateExtremes :
    (0x80010093#32).extractLsb' 20 12 = 0x800 ∧ (0x7FF10093#32).extractLsb' 20 12 = 0x7FF ∧
    ((0x80A13023#32).extractLsb' 25 7 = 0x40 ∧ (0x80A13023#32).extractLsb' 7 5 = 0) ∧
    ((0x7EA13FA3#32).extractLsb' 25 7 = 0x3F ∧ (0x7EA13FA3#32).extractLsb' 7 5 = 0x1F) ∧
    ((0x80208063#32).extractLsb' 31 1 = 1 ∧ (0x80208063#32).extractLsb' 7 1 = 0 ∧
      (0x80208063#32).extractLsb' 25 6 = 0 ∧ (0x80208063#32).extractLsb' 8 4 = 0) ∧
    ((0x7E208FE3#32).extractLsb' 31 1 = 0 ∧ (0x7E208FE3#32).extractLsb' 7 1 = 1 ∧
      (0x7E208FE3#32).extractLsb' 25 6 = 0x3F ∧ (0x7E208FE3#32).extractLsb' 8 4 = 0xF) ∧
    (0x800000B7#32).extractLsb' 12 20 = 0x80000 ∧ (0x7FFFF0B7#32).extractLsb' 12 20 = 0x7FFFF ∧
    ((0x800000EF#32).extractLsb' 31 1 = 1 ∧ (0x800000EF#32).extractLsb' 21 10 = 0 ∧
      (0x800000EF#32).extractLsb' 20 1 = 0 ∧ (0x800000EF#32).extractLsb' 12 8 = 0) ∧
    ((0x7FFFF0EF#32).extractLsb' 31 1 = 0 ∧ (0x7FFFF0EF#32).extractLsb' 21 10 = 0x3FF ∧
      (0x7FFFF0EF#32).extractLsb' 20 1 = 1 ∧ (0x7FFFF0EF#32).extractLsb' 12 8 = 0xFF) ∧
    (0x003120AF#32).extractLsb' 25 2 = 0 ∧ (0x0E3130AF#32).extractLsb' 25 2 = 3 ∧
    (0x4000D093#32).extractLsb' 20 6 = 0 ∧ (0x03F09093#32).extractLsb' 20 6 = 0x3F := by decide

/-- A decode of the register-register shape, so that the last clause is met too. -/
theorem witness_EveryDecodedRecordHasItsShape :
    (supply [0xB3, 0x02, 0x73, 0x00]).pending = .decode { base := 0, inLen := 4 } :: [] ∧
    (∃ t, step (supply [0xB3, 0x02, 0x73, 0x00]) = .next t ∧
      t.decoded = some (.ok 4 (rec 27 (some 5) (some 6) (some 7) none 0))) ∧
    (27 : MnemCode) = Mnemonic.add.code ∧ Mnemonic.add.shape = .r :=
  ⟨rfl, ⟨_, rfl, by decide⟩, rfl, rfl⟩

theorem witness_MeaningsTouchOnlyTheOutputs : ∃ t, exec (.sd 2 10 (-8)) S1 = .next t := ⟨_, rfl⟩

theorem witness_DecodeHasNoSideEffects :
    S1.pending = .decode q1 :: [] ∧ q1.changes = [] ∧ q1.overlap = [] := ⟨rfl, rfl, rfl⟩

/-- A shared buffer of four cells, of which cell 0 is shared: k is 3, cell 1 is kept text, cell 3 the NUL. -/
abbrev qShared : FormatReq := { source := .given addiRec, base := 0, cap := 4, overlap := [0] }

theorem witness_FormatWritesATerminatedPrefix :
    { page addiRec 4 with pending := [.format qShared] }.pending = .format qShared :: [] ∧ 0 < qShared.cap ∧
    1 < (fullText nameRom addiRec).length ∧ 3 = min (fullText nameRom addiRec).length (qShared.cap - 1) ∧ 1 < 3 ∧
    ¬Shared qShared (0 + 1) ∧ ¬Shared qShared (0 + 3) ∧ ¬Shared qShared 4 ∧ Shared qShared 0 :=
  ⟨rfl, by decide, by decide, by decide, by decide, by unfold Shared; decide, by unfold Shared; decide,
    by unfold Shared; decide, by unfold Shared; decide⟩

theorem witness_FormatWritesATerminatedPrefix_cap_0 :
    (page addiRec 0).pending = .format { source := .given addiRec, base := 0, cap := 0 } :: [] := rfl

theorem witness_FormatWithCapacityZeroWritesNothing :
    (page addiRec 0).pending = .format { source := .given addiRec, base := 0, cap := 0 } :: [] ∧ 0 = 0 := ⟨rfl, rfl⟩

/-- Cell 4 is the first past a buffer of four. -/
theorem witness_FormatTouchesOnlyTheOutputBuffer :
    (page addiRec 4).pending = .format { source := .given addiRec, base := 0, cap := 4 } :: [] ∧ 0 + 4 ≤ 4 :=
  ⟨rfl, by decide⟩

/-- Codes 0, 94 and 255 have no token and codes 1 and 93 have one. -/
theorem witness_UnknownCodesPrintThePlaceholder :
    tokenOf nameRom 0 = none ∧ tokenOf nameRom 94 = none ∧ tokenOf nameRom 255 = none ∧
    tokenOf nameRom 1 = some (ascii "lb") ∧ tokenOf nameRom 93 = some (ascii "fencei") ∧
    94 ≤ (94 : MnemCode).toNat ∧ boundedText 1 (ascii "<invalid>") = [0x00] := by decide

/-- Each sign at its boundary: 0 and 2147483647; -1 and -2147483648. -/
theorem witness_DecimalTextReadsBack :
    0 ≤ (0 : Imm).toInt ∧ sdec 0 = ascii "0" ∧ 0 ≤ (0x7FFFFFFF : Imm).toInt ∧
    sdec 0x7FFFFFFF = ascii "2147483647" ∧ (0xFFFFFFFF : Imm).toInt < 0 ∧ sdec 0xFFFFFFFF = ascii "-1" ∧
    (0x80000000 : Imm).toInt < 0 ∧ sdec 0x80000000 = ascii "-2147483648" := by decide

theorem witness_FullTextOfAnyRecord :
    tokenOf nameRom 0 = none ∧ tokenOf nameRom 12 = some (ascii "addi") := by decide

/-- The longest decoded record, in a buffer that just holds it. -/
theorem witness_TextLengthsAreBounded :
    DecodedRecord (rec 65 (some 31) (some 31) (some 31) none 3) ∧ 24 ≤ 24 ∧ 38 ≤ 38 ∧
    (fullText nameRom (rec 65 (some 31) (some 31) (some 31) none 3)).length = 23 :=
  ⟨⟨.amomaxuW, rfl, rfl, rfl, rfl, rfl, by simp only [Mnemonic.shape, immInRange]; decide⟩, by decide, by decide, by decide⟩

/-- A letter, a digit, the dot, the separator, the sign and the NUL occur. -/
theorem witness_TextUsesOnlyTheListedCharacters :
    0x61 ∈ fullText nameRom (rec 58 (some 1) none none none (-5)) ∧
    0x31 ∈ fullText nameRom (rec 58 (some 1) none none none (-5)) ∧
    0x2E ∈ fullText nameRom (rec 58 (some 1) none none none (-5)) ∧
    0x20 ∈ fullText nameRom (rec 58 (some 1) none none none (-5)) ∧
    0x2D ∈ fullText nameRom (rec 58 (some 1) none none none (-5)) ∧
    0x00 ∈ boundedText 4 (fullText nameRom (rec 58 (some 1) none none none (-5))) := by decide

/-- Two states with other contents and buffers at other places; clauses at the last cell k = 3 and the first past it. -/
theorem witness_FormatIgnoresOldContents :
    (page addiRec 4).nameRom = { supply [] with pending := [.format { source := .given addiRec, base := 7, cap := 4 }] }.nameRom ∧
    (page addiRec 4).pending = .format { source := .given addiRec, base := 0, cap := 4 } :: [] ∧
    { supply [] with pending := [.format { source := .given addiRec, base := 7, cap := 4 }] }.pending =
      .format { source := .given addiRec, base := 7, cap := 4 } :: [] ∧
    0 < 4 ∧ 3 ≤ min (fullText nameRom addiRec).length (4 - 1) ∧ 0 + 3 < 4 ∧ 7 + 3 < 11 :=
  ⟨rfl, rfl, rfl, by decide, by decide, by decide, by decide⟩

theorem witness_RomsNeverChange : ∃ t, step S1 = .next t := ⟨_, rfl⟩

/-- The caller changes cell 0 of the word from 0x93 to 0x13 while it is decoded. -/
theorem witness_UnstableDecodeIsSomeMix :
    { S1 with pending := [.decode { q1 with changes := [(0, 0x13)] }] }.pending =
      .decode { q1 with changes := [(0, 0x13)] } :: [] ∧ (0, 0x13) ∈ ({ q1 with changes := [(0, 0x13)] } : DecodeReq).changes ∧
    0 ∉ ({ q1 with changes := [(0, 0x13)] } : DecodeReq).overlap := ⟨rfl, by decide, by decide⟩

/-- Two formats whose buffers meet at cell 4, and a decode between them. -/
theorem witness_CallsOnDisjointBuffersAreIndependent :
    Clean S1 (.decode q1) ∧ Clean S1 (.format { source := .given addiRec, base := 0, cap := 4 }) ∧
    Clean S1 (.format { source := .given addiRec, base := 4, cap := 4 }) ∧
    Apart { source := .given addiRec, base := 0, cap := 4 } (.decode q1) ∧
    Apart { source := .given addiRec, base := 0, cap := 4 } (.format { source := .given addiRec, base := 4, cap := 4 }) :=
  ⟨witness_keeps_S1, ⟨rfl, _, rfl⟩, ⟨rfl, _, rfl⟩, trivial, .inl (by decide)⟩

theorem witness_RepeatingARequestChangesNothing :
    Clean S1 (.decode q1) ∧ Clean S1 (.format { source := .given addiRec, base := 0, cap := 13 }) :=
  ⟨witness_keeps_S1, ⟨rfl, _, rfl⟩⟩

abbrev S2 : State :=
  { S1 with pending := [.decode q1, .format { source := .decoded, base := 0, cap := 13 }] }

theorem witness_DecodeThenFormatPrintsTheRow :
    S2.pending = .decode q1 :: .format { source := .decoded, base := 0, cap := 13 } :: [] ∧
    decode S2.mnemRom q1.inLen (inByte S2 q1) = .ok (.addi 1 2 5) ∧
    (∀ u : State, exec (.addi 1 2 5) u = .next { u with decoded := some (.ok 4 addiRec) }) ∧ 0 < 13 ∧
    11 < (fullText nameRom addiRec).length ∧ 11 < 13 - 1 :=
  ⟨rfl, by decide, fun _ => rfl, by decide, by decide, by decide⟩

theorem witness_TextDeterminesTheInstruction :
    (Instr.addi 1 2 5).wellFormed = true ∧ ∃ t, exec (.addi 1 2 5) S1 = .next t ∧ t.decoded = some (.ok 4 addiRec) ∧
      fullText nameRom addiRec = ascii "addi r1 r2 5" :=
  ⟨by decide, _, rfl, by decide, by decide⟩

theorem witness_PortCodes : regBus none = regBus none ∧ regBus (some 0) ≠ regBus none ∧
    regBus (some 31) = 0b111111 := by decide

end Sys2Proof.Tests
end

section
/-! Decimal text: what its characters are, and that it reads back (48_formatter.md R316, R319, R320). -/

namespace Sys2Proof.Machine

open Sys2Proof.Safety

theorem digit_toNat {d : Nat} (h : d < 10) : (digit d).toNat = 0x30 + d := by
  simp only [digit, BitVec.toNat_ofNat]
  omega

/-- Every character of a decimal text is a digit. -/
theorem exists_digit_of_mem_digits {fuel n : Nat} {c : Byte} (h : c ∈ digits fuel n) : ∃ d < 10, c = digit d := by
  induction fuel generalizing n with
  | zero => simp [digits] at h
  | succ fuel ih =>
    rw [digits] at h
    split at h
    · next hn => exact ⟨n, hn, by simpa using h⟩
    · rcases List.mem_append.1 h with h | h
      · exact ih h
      · exact ⟨n % 10, Nat.mod_lt _ (by decide), by simpa using h⟩

/-- A character below `0` or above `9` is not in a decimal text. -/
theorem notMem_dec {c : Byte} (h : c.toNat < 0x30 ∨ 0x39 < c.toNat) (n : Nat) : c ∉ dec n := by
  intro hc
  obtain ⟨d, hd, rfl⟩ := exists_digit_of_mem_digits hc
  rw [digit_toNat hd] at h
  omega

/-- One more digit at the end. -/
theorem readDec_append_digit (cs : List Byte) {d : Nat} (h : d < 10) :
    readDec (cs ++ [digit d]) = 10 * readDec cs + d := by
  simp [readDec, digit_toNat h]

theorem readDec_digits {fuel n : Nat} (h : n < 10 ^ fuel) : readDec (digits fuel n) = n := by
  induction fuel generalizing n with
  | zero => simp_all [digits, readDec]
  | succ fuel ih =>
    rw [digits]
    split
    · next hn => simpa [readDec] using readDec_append_digit [] hn
    · rw [readDec_append_digit _ (Nat.mod_lt _ (by decide)), ih (by omega)]
      omega

/-- `dec` loses nothing below ten digits' limit. -/
theorem dec_inj {m n : Nat} (hm : m < 10 ^ 10) (hn : n < 10 ^ 10) (h : dec m = dec n) : m = n := by
  rw [← readDec_digits hm, ← readDec_digits hn]
  exact congrArg readDec h

/-- The magnitude of an immediate has at most ten digits (48_formatter.md R319). -/
theorem natAbs_toInt_lt (v : Imm) : v.toInt.natAbs < 10 ^ 10 := by
  have := BitVec.le_toInt v
  have := BitVec.toInt_lt (x := v)
  omega

theorem sdec_of_neg {v : Imm} (h : v.toInt < 0) : sdec v = 0x2D :: dec v.toInt.natAbs := by
  rw [sdec, if_pos h]
  rfl

theorem sdec_of_nonneg {v : Imm} (h : 0 ≤ v.toInt) : sdec v = dec v.toInt.natAbs := by
  rw [sdec, if_neg (Int.not_lt.2 h)]

/-- A text with a minus sign is no text of a magnitude. -/
theorem cons_minus_ne_dec (cs : List Byte) (n : Nat) : 0x2D :: cs ≠ dec n := fun h =>
  notMem_dec (c := 0x2D) (by decide) n (h ▸ List.mem_cons_self)

/-- Two immediates with the same signed text are equal: the sign is read off the first character, and the rest is the
magnitude. -/
theorem sdec_inj {v w : Imm} (h : sdec v = sdec w) : v = w := by
  have magnitude := dec_inj (natAbs_toInt_lt v) (natAbs_toInt_lt w)
  apply BitVec.eq_of_toInt_eq
  rcases lt_or_ge v.toInt 0 with hv | hv <;> rcases lt_or_ge w.toInt 0 with hw | hw
  · rw [sdec_of_neg hv, sdec_of_neg hw] at h
    have := magnitude (List.cons.inj h).2
    omega
  · rw [sdec_of_neg hv, sdec_of_nonneg hw] at h
    exact absurd h (cons_minus_ne_dec _ _)
  · rw [sdec_of_nonneg hv, sdec_of_neg hw] at h
    exact absurd h.symm (cons_minus_ne_dec _ _)
  · rw [sdec_of_nonneg hv, sdec_of_nonneg hw] at h
    have := magnitude h
    omega

/-- No space is in a signed text. -/
theorem space_notMem_sdec (v : Imm) : (0x20 : Byte) ∉ sdec v := by
  have := notMem_dec (c := 0x20) (by decide) v.toInt.natAbs
  rcases lt_or_ge v.toInt 0 with hv | hv
  · simpa [sdec_of_neg hv] using this
  · rwa [sdec_of_nonneg hv]

end Sys2Proof.Machine
end

section
/-! The full text as words between single spaces (48_formatter.md R326), and that the words can be told apart. -/

namespace Sys2Proof.Machine

/-- The word of a register field: none when the field is absent (48_formatter.md R315, R316). -/
def regWords (o : Option Reg) : List (List Byte) := o.toList.map fun n => ascii "r" ++ dec n.val

/-- The word of the immediate: none when it is 0 (48_formatter.md R318). -/
def immWords (v : Imm) : List (List Byte) := if v = 0 then [] else [sdec v]

/-- The words after the token. -/
def operandWords (r : Record) : List (List Byte) :=
  regWords r.rd ++ regWords r.rs1 ++ regWords r.rs2 ++ regWords r.rs3 ++ immWords r.imm

theorem regText_eq_flatMap (o : Option Reg) : regText o = (regWords o).flatMap (0x20 :: ·) := by
  cases o with
  | none => rfl
  | some n => simp [regText, regWords, ascii]

theorem immText_eq_flatMap (v : Imm) : immText v = (immWords v).flatMap (0x20 :: ·) := by
  rw [immText, immWords]
  split
  · rfl
  · simp [ascii]

/-- Words between single spaces are the first word and then each other one after a space. -/
theorem intercalate_space_cons (w : List Byte) (ws : List (List Byte)) :
    [(0x20 : Byte)].intercalate (w :: ws) = w ++ ws.flatMap (0x20 :: ·) := by
  induction ws generalizing w with
  | nil => simp
  | cons v vs ih => rw [List.intercalate_cons_cons, ih]; simp

/-- The text of a record with a token is its words between single spaces. -/
theorem fullText_eq_intercalate {rom : NameRom} {r : Record} {token : List Byte}
    (h : tokenOf rom r.mnemonic = some token) :
    fullText rom r = [(0x20 : Byte)].intercalate (token :: operandWords r) := by
  simp only [fullText, h, intercalate_space_cons, operandWords, regText_eq_flatMap, immText_eq_flatMap,
    List.flatMap_append, List.append_assoc]

theorem space_notMem_of_mem_regWords {o : Option Reg} {w : List Byte} (h : w ∈ regWords o) : (0x20 : Byte) ∉ w := by
  obtain ⟨n, -, rfl⟩ := List.mem_map.1 h
  have := notMem_dec (c := 0x20) (by decide) n.val
  simpa [ascii] using this

theorem space_notMem_of_mem_immWords {v : Imm} {w : List Byte} (h : w ∈ immWords v) : (0x20 : Byte) ∉ w := by
  rw [immWords] at h
  split at h
  · simp at h
  · exact List.mem_singleton.1 h ▸ space_notMem_sdec v

theorem space_notMem_of_mem_operandWords {r : Record} {w : List Byte} (h : w ∈ operandWords r) :
    (0x20 : Byte) ∉ w := by
  simp only [operandWords, List.mem_append] at h
  rcases h with (((h | h) | h) | h) | h
  iterate 4 exact space_notMem_of_mem_regWords h
  exact space_notMem_of_mem_immWords h

/-- The words are read back from the text by splitting it at the spaces. -/
theorem splitOn_fullText {rom : NameRom} {r : Record} {token : List Byte} (ht : tokenOf rom r.mnemonic = some token)
    (hs : (0x20 : Byte) ∉ token) : (fullText rom r).splitOn 0x20 = token :: operandWords r := by
  rw [fullText_eq_intercalate ht]
  exact List.splitOn_intercalate _ (List.forall_mem_cons.2 ⟨hs, fun _ => space_notMem_of_mem_operandWords⟩)
    (List.cons_ne_nil _ _)

/-- A register word in front, when both fields are present or both absent. -/
theorem regWords_append_inj {a b : Option Reg} {ws ws' : List (List Byte)} (hp : a.isSome = b.isSome)
    (h : regWords a ++ ws = regWords b ++ ws') : a = b ∧ ws = ws' := by
  match a, b with
  | none, none => exact ⟨rfl, h⟩
  | none, some _ | some _, none => simp at hp
  | some m, some n =>
    obtain ⟨hw, hws⟩ := List.cons.inj h
    have hd : m.val = n.val := dec_inj (by omega) (by omega) (List.append_cancel_left hw)
    exact ⟨congrArg some (Fin.ext hd), hws⟩

theorem immWords_inj {v w : Imm} (h : immWords v = immWords w) : v = w := by
  rw [immWords, immWords] at h
  split at h <;> split at h
  · next hv hw => exact hv.trans hw.symm
  · simp at h
  · simp at h
  · exact sdec_inj (List.singleton_inj.1 h)

end Sys2Proof.Machine
end

section
/-! The default `NAME_ROM` (48_formatter.md R314): every mnemonic has a token of its own, without a space. -/

namespace Sys2Proof.Machine

theorem tokenOf_nameRom_isSome (m : Mnemonic) : (tokenOf nameRom m.code).isSome = true := by
  cases m <;> rfl

/-- A token is that of a row of the ROM with the code. -/
theorem tokenOf_eq_some {rom : NameRom} {code : MnemCode} {token : List Byte} (h : tokenOf rom code = some token) :
    ∃ row ∈ rom, row.code = code ∧ row.token = token := by
  obtain ⟨row, hf, ht⟩ := Option.map_eq_some_iff.1 h
  exact ⟨row, List.mem_of_find?_eq_some hf, by simpa using List.find?_some hf, ht⟩

theorem nameRom_tokens_nodup : (nameRom.map NameRow.token).Nodup := by decide

theorem space_notMem_nameRom_token : ∀ row ∈ nameRom, (0x20 : Byte) ∉ row.token := by decide

/-- Two codes with one token are one code. -/
theorem code_eq_of_tokenOf_nameRom {c c' : MnemCode} {token : List Byte} (h : tokenOf nameRom c = some token)
    (h' : tokenOf nameRom c' = some token) : c = c' := by
  obtain ⟨row, hr, rfl, ht⟩ := tokenOf_eq_some h
  obtain ⟨row', hr', rfl, ht'⟩ := tokenOf_eq_some h'
  rw [List.inj_on_of_nodup_map nameRom_tokens_nodup hr hr' (ht.trans ht'.symm)]

/-- No token of the default ROM has a space. -/
theorem space_notMem_tokenOf_nameRom {c : MnemCode} {token : List Byte} (h : tokenOf nameRom c = some token) :
    (0x20 : Byte) ∉ token := by
  obtain ⟨row, hr, -, rfl⟩ := tokenOf_eq_some h
  exact space_notMem_nameRom_token row hr

end Sys2Proof.Machine
end

section
/-! The way back from a record to its instruction. -/

namespace Sys2Proof

theorem Mnemonic.code_injective : Function.Injective Mnemonic.code :=
  Function.LeftInverse.injective (g := fun c => Mnemonic.ofNat (c.toNat - 1)) fun m => by cases m <;> rfl

/-- The instruction's row: the constructors of Instr and of Mnemonic stand in the same order. -/
def Instr.mnemonic (i : Instr) : Mnemonic := Mnemonic.ofNat i.ctorIdx

/-- The row's instruction with the operands of its shape (30_encoding.md R84): the way back from a mnemonic and its
operand fields. -/
def Mnemonic.withOperands (m : Mnemonic) (rd rs1 rs2 : Reg) (imm : Imm) : Instr :=
  match m with
  | .lb => .lb rd rs1 imm | .lh => .lh rd rs1 imm | .lw => .lw rd rs1 imm | .ld => .ld rd rs1 imm
  | .lbu => .lbu rd rs1 imm | .lhu => .lhu rd rs1 imm | .lwu => .lwu rd rs1 imm | .sb => .sb rs1 rs2 imm
  | .sh => .sh rs1 rs2 imm | .sw => .sw rs1 rs2 imm | .sd => .sd rs1 rs2 imm | .addi => .addi rd rs1 imm
  | .slti => .slti rd rs1 imm | .sltiu => .sltiu rd rs1 imm | .xori => .xori rd rs1 imm | .ori => .ori rd rs1 imm
  | .andi => .andi rd rs1 imm | .slli => .slli rd rs1 imm | .srli => .srli rd rs1 imm | .srai => .srai rd rs1 imm
  | .lui => .lui rd imm | .auipc => .auipc rd imm | .addiw => .addiw rd rs1 imm | .slliw => .slliw rd rs1 imm
  | .srliw => .srliw rd rs1 imm | .sraiw => .sraiw rd rs1 imm | .add => .add rd rs1 rs2 | .sub => .sub rd rs1 rs2
  | .sll => .sll rd rs1 rs2 | .slt => .slt rd rs1 rs2 | .sltu => .sltu rd rs1 rs2 | .xor => .xor rd rs1 rs2
  | .srl => .srl rd rs1 rs2 | .sra => .sra rd rs1 rs2 | .or => .or rd rs1 rs2 | .and => .and rd rs1 rs2
  | .mul => .mul rd rs1 rs2 | .mulh => .mulh rd rs1 rs2 | .mulhsu => .mulhsu rd rs1 rs2 | .mulhu => .mulhu rd rs1 rs2
  | .div => .div rd rs1 rs2 | .divu => .divu rd rs1 rs2 | .rem => .rem rd rs1 rs2 | .remu => .remu rd rs1 rs2
  | .addw => .addw rd rs1 rs2 | .subw => .subw rd rs1 rs2 | .sllw => .sllw rd rs1 rs2 | .srlw => .srlw rd rs1 rs2
  | .sraw => .sraw rd rs1 rs2 | .mulw => .mulw rd rs1 rs2 | .divw => .divw rd rs1 rs2 | .divuw => .divuw rd rs1 rs2
  | .remw => .remw rd rs1 rs2 | .remuw => .remuw rd rs1 rs2 | .lrW => .lrW rd rs1 rs2 imm | .scW => .scW rd rs1 rs2 imm
  | .amoswapW => .amoswapW rd rs1 rs2 imm | .amoaddW => .amoaddW rd rs1 rs2 imm | .amoxorW => .amoxorW rd rs1 rs2 imm
  | .amoandW => .amoandW rd rs1 rs2 imm | .amoorW => .amoorW rd rs1 rs2 imm | .amominW => .amominW rd rs1 rs2 imm
  | .amomaxW => .amomaxW rd rs1 rs2 imm | .amominuW => .amominuW rd rs1 rs2 imm | .amomaxuW => .amomaxuW rd rs1 rs2 imm
  | .lrD => .lrD rd rs1 rs2 imm | .scD => .scD rd rs1 rs2 imm | .amoswapD => .amoswapD rd rs1 rs2 imm
  | .amoaddD => .amoaddD rd rs1 rs2 imm | .amoxorD => .amoxorD rd rs1 rs2 imm | .amoandD => .amoandD rd rs1 rs2 imm
  | .amoorD => .amoorD rd rs1 rs2 imm | .amominD => .amominD rd rs1 rs2 imm | .amomaxD => .amomaxD rd rs1 rs2 imm
  | .amominuD => .amominuD rd rs1 rs2 imm | .amomaxuD => .amomaxuD rd rs1 rs2 imm | .beq => .beq rs1 rs2 imm
  | .bne => .bne rs1 rs2 imm | .blt => .blt rs1 rs2 imm | .bge => .bge rs1 rs2 imm | .bltu => .bltu rs1 rs2 imm
  | .bgeu => .bgeu rs1 rs2 imm | .jalr => .jalr rd rs1 imm | .jal => .jal rd imm | .ecall => .ecall rd rs1 imm
  | .csrrw => .csrrw rd rs1 imm | .csrrs => .csrrs rd rs1 imm | .csrrc => .csrrc rd rs1 imm
  | .csrrwi => .csrrwi rd rs1 imm | .csrrsi => .csrrsi rd rs1 imm | .csrrci => .csrrci rd rs1 imm
  | .fence => .fence rd rs1 imm | .fencei => .fencei rd rs1 imm

/-- The instruction whose record this is, if it is one of row `m`. -/
def Mnemonic.ofRecord (m : Mnemonic) (r : Record) : Instr :=
  m.withOperands (r.rd.getD 0) (r.rs1.getD 0) (r.rs2.getD 0) r.imm

end Sys2Proof
end

section
/-! The record a meaning delivers, its text, and what the text determines. -/

namespace Sys2Proof.Machine

/-- The record carries the fields of the row's shape (30_encoding.md R84, 10_state.md R38). -/
structure RowRecord (m : Mnemonic) (r : Record) : Prop where
  code : r.mnemonic = m.code
  rd : r.rd.isSome = m.shape.hasRd
  rs1 : r.rs1.isSome = m.shape.hasRs1
  rs2 : r.rs2.isSome = m.shape.hasRs2
  rs3 : r.rs3 = none

/-- Every meaning delivers a record of its row, from which the instruction can be read back. -/
theorem exec_delivers_rowRecord (i : Instr) : ∃ r, (∀ s, exec i s = .next (s.deliver r)) ∧
    RowRecord i.mnemonic r ∧ i.mnemonic.ofRecord r = i := by
  cases i <;> exact ⟨_, fun _ => rfl, ⟨rfl, rfl, rfl, rfl, rfl⟩, rfl⟩

/-- The same, of a record seen on the outputs. -/
theorem rowRecord_of_exec {i : Instr} {s t : State} {r : Record} (h : exec i s = .next t)
    (hr : t.decoded = some (.ok 4 r)) : RowRecord i.mnemonic r ∧ i.mnemonic.ofRecord r = i := by
  obtain ⟨r₀, hexec, hrow⟩ := exec_delivers_rowRecord i
  obtain rfl : s.deliver r₀ = t := by simpa using (hexec s).symm.trans h
  obtain rfl : r₀ = r := by simpa using hr
  exact hrow

/-- Two records of one row with the same operand words are the same record. -/
theorem RowRecord.eq_of_operandWords {m : Mnemonic} {r r' : Record} (hr : RowRecord m r) (hr' : RowRecord m r')
    (h : operandWords r = operandWords r') : r = r' := by
  simp only [operandWords, List.append_assoc] at h
  obtain ⟨hrd, h⟩ := regWords_append_inj (hr.rd.trans hr'.rd.symm) h
  obtain ⟨hrs1, h⟩ := regWords_append_inj (hr.rs1.trans hr'.rs1.symm) h
  obtain ⟨hrs2, h⟩ := regWords_append_inj (hr.rs2.trans hr'.rs2.symm) h
  obtain ⟨hrs3, h⟩ := regWords_append_inj (congrArg Option.isSome (hr.rs3.trans hr'.rs3.symm)) h
  have hcode := hr.code.trans hr'.code.symm
  have himm := immWords_inj h
  cases r; cases r'
  simp_all

/-- The text determines the row, by its token, and the record, by its operand words. -/
theorem RowRecord.eq_of_fullText {m m' : Mnemonic} {r r' : Record} (hr : RowRecord m r) (hr' : RowRecord m' r')
    (h : fullText nameRom r = fullText nameRom r') : m = m' ∧ r = r' := by
  obtain ⟨token, ht⟩ := Option.isSome_iff_exists.1 (tokenOf_nameRom_isSome m)
  obtain ⟨token', ht'⟩ := Option.isSome_iff_exists.1 (tokenOf_nameRom_isSome m')
  have hsplit := splitOn_fullText (hr.code ▸ ht) (space_notMem_tokenOf_nameRom ht)
  rw [h, splitOn_fullText (hr'.code ▸ ht') (space_notMem_tokenOf_nameRom ht')] at hsplit
  obtain ⟨rfl, hwords⟩ := List.cons.inj hsplit
  obtain rfl := Mnemonic.code_injective (code_eq_of_tokenOf_nameRom ht ht')
  exact ⟨rfl, hr.eq_of_operandWords hr' hwords.symm⟩

/-- Settles O48: the text splits into its words at the spaces; the token gives the row and the other words its operands.
That the immediates are in range is not needed. -/
theorem textDeterminesTheInstruction : Obligations.TextDeterminesTheInstruction := by
  intro i j s t u r r' _ _ hi hj hr hr' htext
  obtain ⟨hrow, hback⟩ := rowRecord_of_exec hi hr
  obtain ⟨hrow', hback'⟩ := rowRecord_of_exec hj hr'
  obtain ⟨hm, rfl⟩ := hrow.eq_of_fullText hrow' htext
  rw [← hback, ← hback', hm]

end Sys2Proof.Machine
end

section
/-! Steps in a row, and the cells of a served format. -/

namespace Sys2Proof.Machine

open Sys2Proof.Safety

theorem runs_zero (s : State) : Runs 0 s s := rfl

/-- A step and then `n` more. -/
theorem runs_succ {n : Nat} {s t u : State} (h : step s = .next t) (hrun : Runs n t u) : Runs (n + 1) s u := by
  have hstep : Sys2Proof.core.step s = .next t := h
  simpa [Runs, Host.Core.run, hstep] using hrun

/-- A step that serves a decode which finds an instruction runs its meaning. -/
theorem step_decode_ok {s : State} {q : DecodeReq} {rest : List Request} {i : Instr}
    (hp : s.pending = .decode q :: rest) (hf : fetch s q = .ok i) : step s = exec i (s.afterDecode q rest) := by
  simp [step, hp, hf]

/-- A cell that the caller has not shared holds after the format what the writer left there. -/
theorem State.read_afterFormat_of_not_shared {s : State} {q : FormatReq} {rest : List Request} {a : Nat}
    (h : ¬Shared q a) : (s.afterFormat q rest).outMem.read a =
      (s.outMem.writeRange q.base (boundedText q.cap (fullText s.nameRom (s.recordFor q.source)))).read a := by
  rw [State.afterFormat_outMem]
  refine Memory.read_writeCells_outside _ _ _ fun c hc hca => h ?_
  obtain ⟨i, hi, hlt, hci⟩ := mem_freeCells hc
  exact ⟨i, hi, hlt, hca.symm.trans hci⟩

theorem not_shared_of_overlap_nil {q : FormatReq} (h : q.overlap = []) (a : Nat) : ¬Shared q a := by
  simp [Shared, h]

theorem boundedText_of_pos {cap : Nat} (h : 0 < cap) (text : List Byte) :
    boundedText cap text = text.take (cap - 1) ++ [0x00] := by
  simp [boundedText, Nat.pos_iff_ne_zero.1 h]

/-- A character that fits before the terminator is written to its cell (48_formatter.md R321). -/
theorem Memory.read_writeRange_boundedText {cap j : Nat} {text : List Byte} (m : Memory) (base : Nat)
    (hj : j < text.length) (hcap : j < cap - 1) :
    (m.writeRange base (boundedText cap text)).read (base + j) = some text[j] := by
  have hpos : 0 < cap := by omega
  rw [Memory.read_writeRange_inside _ _ _ _ (by rw [boundedText_length cap text hpos]; omega)]
  simp [boundedText_of_pos hpos, List.getElem_append_left, hj, hcap]

/-- The terminator is written after the last character (48_formatter.md R322). -/
theorem Memory.read_writeRange_boundedText_nul {cap : Nat} (text : List Byte) (m : Memory) (base : Nat)
    (hcap : 0 < cap) :
    (m.writeRange base (boundedText cap text)).read (base + min text.length (cap - 1)) = some 0x00 := by
  rw [Memory.read_writeRange_inside _ _ _ _ (by rw [boundedText_length cap text hcap]; omega)]
  simp [boundedText_of_pos hcap, List.getElem_append_right, Nat.min_comm]

/-- Settles O47: the decode's step delivers `r`, which is the record the format's step then takes. -/
theorem decodeThenFormatPrintsTheRow : Obligations.DecodeThenFormatPrintsTheRow := by
  intro s q base cap rest i r hp hd hexec hcap
  have hstep := (step_decode_ok hp hd).trans (hexec _)
  refine ⟨_, runs_succ hstep (runs_succ (step_format rfl) (runs_zero _)), rfl, rfl, fun j hj hlt => ?_, ?_⟩
  · rw [State.read_afterFormat_of_not_shared (not_shared_of_overlap_nil rfl _)]
    exact Memory.read_writeRange_boundedText _ _ hj hlt
  · rw [State.read_afterFormat_of_not_shared (not_shared_of_overlap_nil rfl _)]
    exact Memory.read_writeRange_boundedText_nul _ _ _ hcap

end Sys2Proof.Machine
end

section
/-! The immediates built from a word lie in the range of their shape (30_encoding.md R86 to R94). -/

namespace Sys2Proof

open Sys2Proof.Safety

/-- A field of `n + 1` bits keeps its signed range under sign extension. -/
theorem toInt_signExtend_range {n : Nat} (v : BitVec (n + 1)) (h : n < 32) :
    -2 ^ n ≤ (v.signExtend 32).toInt ∧ (v.signExtend 32).toInt ≤ 2 ^ n - 1 := by
  rw [BitVec.toInt_signExtend_of_le h]
  exact ⟨v.le_toInt, Int.le_sub_one_of_lt v.toInt_lt⟩

/-- A field keeps its range under zero extension. -/
theorem toNat_setWidth_lt {n : Nat} (v : BitVec n) (h : n ≤ 32) : (v.setWidth 32).toNat < 2 ^ n := by
  rw [BitVec.toNat_setWidth_of_le h]
  exact v.isLt

/-- An immediate assembled with a 0 below its lowest field bit is even. -/
theorem toNat_signExtend_append_zero_even {n : Nat} (v : BitVec n) :
    ((v ++ 0#1).signExtend 32).toNat % 2 = 0 := by
  have hbit : ((v ++ 0#1).signExtend 32).getLsbD 0 = false := by
    rw [BitVec.getLsbD_signExtend, BitVec.getLsbD_append]
    simp
  rw [← BitVec.testBit_toNat, Nat.testBit_zero] at hbit
  simpa using hbit

/-- A signed value has the parity of its bits. -/
theorem toInt_emod_two (v : Imm) : v.toInt % 2 = v.toNat % 2 := by
  rw [BitVec.toInt_eq_toNat_cond]
  split <;> omega

/-- The range of a sign-extended immediate with a 0 below its lowest field bit: the largest value of its width is odd
and drops out. -/
theorem toInt_signExtend_append_zero_range {n : Nat} (v : BitVec (n + 1)) (h : n + 1 < 32) :
    -2 ^ (n + 1) ≤ ((v ++ 0#1).signExtend 32).toInt ∧ ((v ++ 0#1).signExtend 32).toInt ≤ 2 ^ (n + 1) - 2 ∧
      ((v ++ 0#1).signExtend 32).toNat % 2 = 0 := by
  obtain ⟨hlo, hhi⟩ := toInt_signExtend_range (v ++ 0#1) h
  have heven := toNat_signExtend_append_zero_even v
  have hparity := toInt_emod_two ((v ++ 0#1).signExtend 32)
  refine ⟨hlo, ?_, heven⟩
  rw [pow_succ] at hhi ⊢
  omega

/-- Twelve zero bits below a field make a multiple of 4096. -/
theorem toNat_append_zero_mod {n : Nat} (v : BitVec n) : (v ++ 0#12).toNat % 4096 = 0 := by
  have hval : (v ++ 0#12).toNat = v.toNat * 4096 := by
    rw [BitVec.toNat_append, Nat.shiftLeft_eq]
    exact Nat.or_zero _
  omega

/-- The immediate built from a word lies in its shape's range. -/
theorem immInRange_immOf (shape : Shape) (w : Word) : immInRange shape (shape.immOf w) := by
  cases shape with
  | r => rfl
  | i => exact toInt_signExtend_range (n := 11) _ (by decide)
  | s => exact toInt_signExtend_range (n := 11) _ (by decide)
  | b => exact toInt_signExtend_append_zero_range (n := 11) _ (by decide)
  | u => exact toNat_append_zero_mod _
  | j => exact toInt_signExtend_append_zero_range (n := 19) _ (by decide)
  | amo => exact Nat.le_of_lt_succ (toNat_setWidth_lt (n := 2) _ (by decide))
  | sh => exact Nat.le_of_lt_succ (toNat_setWidth_lt (n := 6) _ (by decide))

/-- The codes are 1 to 93 (10_state.md R33). -/
theorem Mnemonic.code_range (m : Mnemonic) : 1 ≤ m.code.toNat ∧ m.code.toNat ≤ 93 := by
  cases m <;> decide

end Sys2Proof
end

section
/-! The records of a decode have the fields of their shape (10_state.md R38). -/

namespace Sys2Proof.Machine

open Sys2Proof.Safety

@[simp] theorem fieldIf_isSome (present : Bool) (n : Reg) : (fieldIf present n).isSome = present := by
  cases present <;> rfl

/-- Every record of the operand field multiplexer is one that a decode may deliver. -/
theorem decodedRecord_operandMux (m : Mnemonic) (w : Word) : DecodedRecord (operandMux m w) :=
  ⟨m, rfl, fieldIf_isSome .., fieldIf_isSome .., fieldIf_isSome .., rfl, immInRange_immOf ..⟩

/-- Without `rs3` at most three register fields are present. -/
theorem length_filter_isSome_le_three (a b c : Option Reg) :
    ([a, b, c, none].filter Option.isSome).length ≤ 3 := by
  rw [show [a, b, c, none] = [a, b, c] ++ [none] from rfl, List.filter_append]
  simpa using List.length_filter_le Option.isSome [a, b, c]

end Sys2Proof.Machine
end

section
/-! What a step can do, with the answer of a decode read off the bytes it saw; and what every step keeps. -/

namespace Sys2Proof.Machine

open Sys2Proof.Safety

/-- The meaning of a selected row delivers the record of the operand field multiplexer (40_decode_pipeline.md R131). -/
theorem exec_instr (m : Mnemonic) (w : Word) (s : State) :
    exec (m.instr w) s = .next (s.deliver (operandMux m w)) := by
  cases m <;> rfl

/-- The answers that a decode which reads these bytes can give (40_decode_pipeline.md R120). -/
inductive DecodeAnswer (f : Nat → Byte) : Answer → Prop where
  | ok (m : Mnemonic) : DecodeAnswer f (.ok 4 (operandMux m (wordAt f)))
  | partialInput : DecodeAnswer f .partialInput
  | undefined : DecodeAnswer f .undefined

theorem wordAt_eq_assemble (f : Nat → Byte) : wordAt f = assemble (f 0) (f 1) (f 2) (f 3) := rfl

/-- An instruction that a decode finds delivers the record of some row, taken from the word of the bytes read. -/
theorem exec_of_fetch_ok {s u t : State} {q : DecodeReq} {i : Instr} (hf : fetch s q = .ok i)
    (h : exec i u = .next t) : ∃ m, t = u.deliver (operandMux m (wordAt (inByte s q))) := by
  obtain ⟨-, -, -, m, -, rfl⟩ := decode_eq_ok hf
  exact ⟨m, by simpa [wordAt_eq_assemble] using h.symm.trans (exec_instr m _ u)⟩

/-- A step is idle, or serves a format, or serves a decode and puts an answer to it on the outputs. -/
theorem step_answers {s t : State} (h : step s = .next t) :
    (s.pending = [] ∧ t = s) ∨
    (∃ q rest, s.pending = .format q :: rest ∧ t = s.afterFormat q rest) ∨
    (∃ q rest a, s.pending = .decode q :: rest ∧ DecodeAnswer (inByte s q) a ∧
      t = (s.afterDecode q rest).answer a) := by
  rcases step_cases h with hidle | hformat | ⟨q, rest, hp, -, ht⟩ | ⟨q, rest, -, hp, -, ht⟩ |
    ⟨q, rest, i, hp, hf, hexec⟩
  · exact .inl hidle
  · exact .inr (.inl hformat)
  · exact .inr (.inr ⟨q, rest, _, hp, .partialInput, ht⟩)
  · exact .inr (.inr ⟨q, rest, _, hp, .undefined, ht⟩)
  · obtain ⟨m, ht⟩ := exec_of_fetch_ok hf hexec
    exact .inr (.inr ⟨q, rest, _, hp, .ok m, ht⟩)

/-- A step that serves a decode answers it. -/
theorem step_decode_answers {s t : State} {q : DecodeReq} {rest : List Request} (hp : s.pending = .decode q :: rest)
    (h : step s = .next t) : ∃ a, DecodeAnswer (inByte s q) a ∧ t = (s.afterDecode q rest).answer a := by
  rcases step_answers h with ⟨hp', -⟩ | ⟨q', rest', hp', -⟩ | ⟨q', rest', a, hp', ha, ht⟩
  · simp [hp] at hp'
  · simp [hp] at hp'
  · obtain ⟨⟨⟩, rfl⟩ := List.cons.inj (hp.symm.trans hp')
    exact ⟨a, ha, ht⟩

/-- What a decode can answer is legal on the outputs (10_state.md R30, R38). -/
theorem DecodeAnswer.legal {f : Nat → Byte} {a : Answer} (h : DecodeAnswer f a) : AnswerLegal (some a) := by
  cases h with
  | ok m => exact ⟨rfl, decodedRecord_operandMux m _⟩
  | partialInput | undefined => trivial

theorem State.wf_afterDecode_inMem (s : State) (q : DecodeReq) (rest : List Request) (h : s.inMem.wf = true) :
    (s.afterDecode q rest).inMem.wf = true :=
  Memory.wf_writeCells _ _ (Memory.wf_writeCells _ _ h)

theorem State.wf_afterFormat_outMem (s : State) (q : FormatReq) (rest : List Request) (h : s.outMem.wf = true) :
    (s.afterFormat q rest).outMem.wf = true :=
  Memory.wf_writeCells _ _ (Memory.wf_writeRange _ _ _ h)

/-- Settles O3: a format rewrites the output storage alone; a decode rewrites the input storage and the answer. -/
theorem stepKeepsTheInvariant : Obligations.StepKeepsTheInvariant := by
  intro s t hs h
  obtain ⟨hin, hout, hmnem, hname, hdec⟩ := hs
  rcases step_answers h with ⟨-, rfl⟩ | ⟨q, rest, -, rfl⟩ | ⟨q, rest, a, -, ha, rfl⟩
  · exact ⟨hin, hout, hmnem, hname, hdec⟩
  · exact ⟨hin, s.wf_afterFormat_outMem q rest hout, hmnem, hname, hdec⟩
  · exact ⟨s.wf_afterDecode_inMem q rest hin, hout, hmnem, hname, ha.legal⟩

/-- Settles O29: the record is the operand field multiplexer's, and a code is that of one mnemonic only. -/
theorem everyDecodedRecordHasItsShape : Obligations.EveryDecodedRecordHasItsShape := by
  intro s t q rest n r hp h hdec
  obtain ⟨a, ha, rfl⟩ := step_decode_answers hp h
  obtain rfl : a = .ok n r := by simpa using hdec
  cases ha with
  | ok m =>
    obtain ⟨hlo, hhi⟩ := m.code_range
    refine ⟨rfl, decodedRecord_operandMux m _, ⟨m, rfl, rfl, rfl, rfl, rfl⟩, rfl, hlo, hhi,
      length_filter_isSome_le_three _ _ _, fun m' hcode hshape => ?_⟩
    obtain rfl : m = m' := Mnemonic.code_injective hcode
    simp [operandMux, hshape, Shape.immOf]

/-- Settles O43: no update of the state writes a ROM. -/
theorem romsNeverChange : Obligations.RomsNeverChange := by
  intro s t h
  rcases step_answers h with ⟨-, rfl⟩ | ⟨q, rest, -, rfl⟩ | ⟨q, rest, a, -, -, rfl⟩
  · exact ⟨rfl, rfl⟩
  · simp
  · simp

/-- A shared cell lies in the buffer. -/
theorem not_shared_of_outside {q : FormatReq} {a : Nat} (h : a < q.base ∨ q.base + q.cap ≤ a) : ¬Shared q a := by
  rintro ⟨i, -, hlt, rfl⟩
  omega

/-- A format leaves every cell outside its buffer alone (20_memory.md R58). -/
theorem State.read_afterFormat_outside {s : State} {q : FormatReq} {rest : List Request} {a : Nat}
    (h : a < q.base ∨ q.base + q.cap ≤ a) : (s.afterFormat q rest).outMem.read a = s.outMem.read a := by
  rw [State.read_afterFormat_of_not_shared (not_shared_of_outside h)]
  have hlen := boundedText_length_le q.cap (fullText s.nameRom (s.recordFor q.source))
  exact Memory.read_writeRange_outside _ _ _ _ (by omega)

/-- Settles O34: of the fields it speaks of, a format rewrites the queue and the cells of its buffer. -/
theorem formatTouchesOnlyTheOutputBuffer : Obligations.FormatTouchesOnlyTheOutputBuffer := fun _ _ _ hp =>
  ⟨_, step_format hp, rfl, rfl, rfl, rfl, rfl, fun _ => State.read_afterFormat_outside⟩

end Sys2Proof.Machine
end

section
/-! The codes on the output ports (10_state.md R30, R32, R34). -/

namespace Sys2Proof.Machine

theorem Answer.status_ne_three (a : Answer) : a.status ≠ 3 := by
  cases a <;> simp [Answer.status]

/-- The top bit of a present field's bus is set. -/
theorem regBus_some_valid (n : Reg) : (regBus (some n)).extractLsb' 5 1 = 1 :=
  BitVec.extractLsb'_append_eq_left

/-- The five bits below are the index. -/
theorem regBus_some_index (n : Reg) : ((regBus (some n)).extractLsb' 0 5).toNat = n.val :=
  congrArg BitVec.toNat (BitVec.extractLsb'_append_eq_right (a := 1#1) (b := regBits n))

theorem regBus_some_ne_none (n : Reg) : regBus (some n) ≠ regBus none := fun h => by
  have hvalid := regBus_some_valid n
  rw [h] at hvalid
  exact absurd hvalid (by decide)

/-- The bus value determines the field. -/
theorem regBus_injective : Function.Injective regBus := fun a b h => by
  match a, b with
  | none, none => rfl
  | none, some n => exact absurd h.symm (regBus_some_ne_none n)
  | some n, none => exact absurd h (regBus_some_ne_none n)
  | some m, some n =>
    have hval : m.val = n.val := by rw [← regBus_some_index m, h, regBus_some_index n]
    exact congrArg some (Fin.ext hval)

/-- Settles O49. -/
theorem portCodes : Obligations.PortCodes :=
  ⟨fun _ => ⟨rfl, rfl⟩, rfl, rfl, Answer.status_ne_three, rfl,
    fun n => ⟨regBus_some_valid n, regBus_some_index n⟩, fun _ _ h => regBus_injective h⟩

end Sys2Proof.Machine
end

section
/-! The outcome of a decode test by test, and the cells each outcome depends on (20_memory.md R54, R55). -/

namespace Sys2Proof

open Sys2Proof.Machine Sys2Proof.Safety

section
variable {rom : MnemRom} {n : Nat} {f g : Nat → Byte}

theorem decode_of_lt_two (hn : n < 2) : decode rom n f = .partialInput := by
  simp [decode, hn]

theorem decode_of_compressed (hn : 2 ≤ n) (hc : Compressed (f 0)) : decode rom n f = .undefinedWord .compressed := by
  simp [decode, Nat.not_lt.2 hn, hc]

theorem decode_of_overLength (hn : 2 ≤ n) (hc : ¬Compressed (f 0)) (ho : OverLength (f 0)) :
    decode rom n f = .undefinedWord .overlength := by
  simp [decode, Nat.not_lt.2 hn, not_not.1 hc, ho]

theorem decode_of_incomplete (hn : n < 4) (hc : ¬Compressed (f 0)) (ho : ¬OverLength (f 0)) :
    decode rom n f = .partialInput := by
  simp [decode, hn, not_not.1 hc, ho]

/-- Past the tests, a decode is the lookup of the word of the first four cells. -/
theorem decode_of_complete (hn : 4 ≤ n) (hc : ¬Compressed (f 0)) (ho : ¬OverLength (f 0)) :
    decode rom n f =
      (romLookup rom (opcodeOf (wordAt f)) (funct3Of (wordAt f)) (funct7Of (wordAt f))).elim
        (.undefinedWord .noRow) fun m => .ok (m.instr (wordAt f)) := by
  have hn2 : ¬n < 2 := by omega
  cases hrow : romLookup rom (opcodeOf (wordAt f)) (funct3Of (wordAt f)) (funct7Of (wordAt f)) <;>
    simp [decode, hn2, Nat.not_lt.2 hn, not_not.1 hc, ho, ← wordAt_eq_assemble, hrow]

end

/-- A failed length test is decided by byte 0, whatever the length beyond 2. -/
theorem decode_congr_of_failed {rom : MnemRom} {n n' : Nat} {f g : Nat → Byte} (hn : 2 ≤ n) (hn' : 2 ≤ n')
    (h0 : f 0 = g 0) (hfail : Compressed (f 0) ∨ OverLength (f 0)) : decode rom n f = decode rom n' g := by
  by_cases hc : Compressed (f 0)
  · rw [decode_of_compressed hn hc, decode_of_compressed hn' (h0 ▸ hc)]
  · have ho := hfail.resolve_left hc
    rw [decode_of_overLength hn hc ho, decode_of_overLength hn' (h0 ▸ hc) (h0 ▸ ho)]

/-- Lengths 2 and 3: byte 0 alone. -/
theorem decode_congr_of_incomplete {rom : MnemRom} {n n' : Nat} {f g : Nat → Byte} (hn : 2 ≤ n) (hn4 : n < 4)
    (hn' : 2 ≤ n') (hn4' : n' < 4) (h0 : f 0 = g 0) : decode rom n f = decode rom n' g := by
  by_cases hfail : Compressed (f 0) ∨ OverLength (f 0)
  · exact decode_congr_of_failed hn hn' h0 hfail
  · obtain ⟨hc, ho⟩ := not_or.1 hfail
    rw [decode_of_incomplete hn4 hc ho, decode_of_incomplete hn4' (h0 ▸ hc) (h0 ▸ ho)]

/-- Lengths 4 and more: bytes 0 to 3. -/
theorem decode_congr_of_complete {rom : MnemRom} {n n' : Nat} {f g : Nat → Byte} (hn : 4 ≤ n) (hn' : 4 ≤ n')
    (h : ∀ i, i < 4 → f i = g i) : decode rom n f = decode rom n' g := by
  have h0 := h 0 (by omega)
  by_cases hfail : Compressed (f 0) ∨ OverLength (f 0)
  · exact decode_congr_of_failed (by omega) (by omega) h0 hfail
  · obtain ⟨hc, ho⟩ := not_or.1 hfail
    have hword : wordAt f = wordAt g := by simp only [wordAt, h0, h 1, h 2, h 3, Nat.reduceLT]
    rw [decode_of_complete hn hc ho, decode_of_complete hn' (h0 ▸ hc) (h0 ▸ ho), hword]

/-- A decode of a given length depends on the cells that are both supplied and among the first four. -/
theorem decode_congr {rom : MnemRom} {n : Nat} {f g : Nat → Byte} (h : ∀ i, i < n → i < 4 → f i = g i) :
    decode rom n f = decode rom n g := by
  rcases Nat.lt_or_ge n 2 with h2 | h2
  · rw [decode_of_lt_two h2, decode_of_lt_two h2]
  rcases Nat.lt_or_ge n 4 with h4 | h4
  · exact decode_congr_of_incomplete h2 h4 h2 h4 (h 0 (by omega) (by omega))
  · exact decode_congr_of_complete h4 h4 fun i hi => h i (by omega) hi

/-- Settles O10: one clause for each length class, one for a failed length test, and every meaning's byte count. -/
theorem decodeReadsOnlyItsCells : Obligations.DecodeReadsOnlyItsCells := fun _ _ _ _ _ =>
  ⟨fun h h' => (decode_of_lt_two h).trans (decode_of_lt_two h').symm, decode_congr_of_incomplete,
    decode_congr_of_complete, fun h h' => decode_congr_of_failed (by omega) (by omega),
    fun i s _ => exec_delivers i s⟩

end Sys2Proof
end

section
/-! Requests whose callers keep their duties: what serving one depends on and what it leaves alone
(20_memory.md R51, R58, R59, R61). -/

namespace Sys2Proof.Machine

open Sys2Proof.Safety

/-! ### What serving such a request depends on, and cannot change: the ROMs and the input storage -/

/-- `t` has the ROMs and the input storage of `s`. -/
structure SameInputs (s t : State) : Prop where
  mnemRom : t.mnemRom = s.mnemRom
  nameRom : t.nameRom = s.nameRom
  inMem : t.inMem = s.inMem

theorem SameInputs.refl (s : State) : SameInputs s s := ⟨rfl, rfl, rfl⟩

theorem SameInputs.trans {s t u : State} (h : SameInputs s t) (h' : SameInputs t u) : SameInputs s u :=
  ⟨h'.mnemRom.trans h.mnemRom, h'.nameRom.trans h.nameRom, h'.inMem.trans h.inMem⟩

/-- That a caller keeps its duties is a matter of the request and the input storage. -/
theorem clean_of_sameInputs {s t : State} {r : Request} (h : SameInputs s t) (hr : Clean s r) : Clean t r := by
  cases r with
  | decode q => simpa only [Clean, KeptDuties, h.inMem] using hr
  | format q => exact hr

/-! ### A decode -/

/-- Whatever a decode finds, there is an answer that the outputs show of it. -/
theorem exists_answers (d : Decoded) : ∃ a, Answers d (some a) := by
  cases d with
  | ok i =>
    obtain ⟨r, hexec, -⟩ := exec_delivers_rowRecord i
    exact ⟨_, r, hexec, rfl⟩
  | partialInput => exact ⟨_, rfl⟩
  | undefinedWord why => exact ⟨_, rfl⟩

/-- A step that serves a decode puts on the outputs the answer to what the decode finds. -/
theorem step_decode_of_answers {s : State} {q : DecodeReq} {rest : List Request} {a : Answer}
    (hp : s.pending = .decode q :: rest) (ha : Answers (fetch s q) (some a)) :
    step s = .next ((s.afterDecode q rest).answer a) := by
  cases hf : fetch s q with
  | ok i =>
    obtain ⟨r, hexec, hr⟩ := hf ▸ ha
    obtain rfl := Option.some.inj hr
    exact (step_decode_ok hp hf).trans (hexec _)
  | partialInput =>
    obtain rfl : a = .partialInput := by simpa [hf, Answers] using ha
    simp [step, hp, hf, State.diagnosePartial_eq]
  | undefinedWord why =>
    obtain rfl : a = .undefined := by simpa [hf, Answers] using ha
    simp [step, hp, hf, State.diagnoseUndefined_eq]

/-- What such a decode finds is read off the ROM and the input storage alone. -/
theorem fetch_of_sameInputs {s t : State} {q : DecodeReq} (h : SameInputs s t) (hq : KeptDuties s q) :
    fetch t q = fetch s q := by
  obtain ⟨hc, ho, hbytes⟩ := hq
  rw [fetch, fetch, h.mnemRom]
  refine decode_congr fun i hi hi4 => ?_
  obtain ⟨b, hb⟩ := Option.isSome_iff_exists.1 (hbytes i hi hi4)
  rw [inByte_stable t q i hc ho, inByte_stable s q i hc ho, suppliedByte_present hb,
    suppliedByte_present (h.inMem ▸ hb)]

/-- Such a decode has one answer, given in every state with these inputs. -/
theorem exists_answer_of_keptDuties {s : State} {q : DecodeReq} (hq : KeptDuties s q) :
    ∃ a, ∀ t rest, SameInputs s t → t.pending = .decode q :: rest →
      step t = .next ((t.afterDecode q rest).answer a) := by
  obtain ⟨a, ha⟩ := exists_answers (fetch s q)
  exact ⟨a, fun t rest h hp => step_decode_of_answers hp (fetch_of_sameInputs h hq ▸ ha)⟩

theorem sameInputs_afterDecode {q : DecodeReq} (s : State) (rest : List Request) (a : Answer) (hc : q.changes = [])
    (ho : q.overlap = []) : SameInputs s ((s.afterDecode q rest).answer a) :=
  ⟨rfl, rfl, State.afterDecode_inMem_stable s q rest hc ho⟩

/-! ### A format -/

theorem sameInputs_afterFormat (s : State) (q : FormatReq) (rest : List Request) :
    SameInputs s (s.afterFormat q rest) := ⟨rfl, rfl, rfl⟩

/-- A range of bytes fixes each cell whatever it held, or leaves it as it was. -/
theorem Memory.read_writeRange_fixed_or_kept (bs : List Byte) (base a : Nat) :
    (∃ b, ∀ m : Memory, (m.writeRange base bs).read a = some b) ∨
      ∀ m : Memory, (m.writeRange base bs).read a = m.read a := by
  by_cases h : a < base ∨ base + bs.length ≤ a
  · exact .inr fun m => Memory.read_writeRange_outside _ _ _ _ h
  · obtain ⟨i, rfl⟩ := Nat.exists_eq_add_of_le (Nat.not_lt.1 (not_or.1 h).1)
    exact .inl ⟨bs[i], fun m => Memory.read_writeRange_inside _ _ _ _ _⟩

/-- A format of a given record fixes each cell, in every state with these inputs, or leaves it as it was. -/
theorem State.read_afterFormat_fixed_or_kept {s : State} {q : FormatReq} (hq : Clean s (.format q)) (a : Nat) :
    (∃ b, ∀ t rest, SameInputs s t → (t.afterFormat q rest).outMem.read a = some b) ∨
      ∀ t rest, SameInputs s t → (t.afterFormat q rest).outMem.read a = t.outMem.read a := by
  obtain ⟨ho, r, hr⟩ := hq
  have hread (t : State) (rest : List Request) (h : SameInputs s t) : (t.afterFormat q rest).outMem.read a =
      (t.outMem.writeRange q.base (boundedText q.cap (fullText s.nameRom r))).read a := by
    rw [State.read_afterFormat_of_not_shared (not_shared_of_overlap_nil ho a), h.nameRom, hr, State.recordFor]
  rcases Memory.read_writeRange_fixed_or_kept (boundedText q.cap (fullText s.nameRom r)) q.base a with
    ⟨b, hb⟩ | hkept
  · exact .inl ⟨b, fun t rest h => (hread t rest h).trans (hb _)⟩
  · exact .inr fun t rest h => (hread t rest h).trans (hkept _)

/-- A cell after such a format depends on the inputs and on what the cell held. -/
theorem State.read_afterFormat_congr {s t u : State} {q : FormatReq} {a : Nat} {rest rest' : List Request}
    (hq : Clean s (.format q)) (ht : SameInputs s t) (hu : SameInputs s u) (h : t.outMem.read a = u.outMem.read a) :
    (t.afterFormat q rest).outMem.read a = (u.afterFormat q rest').outMem.read a := by
  rcases State.read_afterFormat_fixed_or_kept hq a with ⟨b, hb⟩ | hkept
  · rw [hb t rest ht, hb u rest' hu]
  · rw [hkept t rest ht, hkept u rest' hu, h]

/-! ### A queue of requests -/

/-- Cell `a` of the output storage lies in the buffer of `r`; a decode has none. -/
def InBuffer (a : Nat) : Request → Prop
  | .decode _ => False
  | .format q => q.base ≤ a ∧ a < q.base + q.cap

/-- A buffer that shares no cell with that of `p` has none of its cells. -/
theorem not_inBuffer_of_apart {p : FormatReq} {r : Request} {i : Nat} (h : Apart p r) (hi : i < p.cap) :
    ¬InBuffer (p.base + i) r := by
  cases r with
  | decode q => exact id
  | format q =>
    simp only [Apart] at h
    rintro ⟨hle, hlt⟩
    omega

/-- Serving the requests `rs` takes `s` to `t` and leaves alone the ROMs, the input storage, and every cell outside
their buffers. -/
structure Frame (rs : List Request) (s t : State) : Prop extends SameInputs s t where
  outMem : ∀ a, (∀ r ∈ rs, ¬InBuffer a r) → t.outMem.read a = s.outMem.read a

theorem Frame.nil (s : State) : Frame [] s s := ⟨.refl s, fun _ _ => rfl⟩

theorem Frame.cons {r : Request} {rs : List Request} {s t u : State} (h : Frame [r] s t) (h' : Frame rs t u) :
    Frame (r :: rs) s u where
  toSameInputs := h.toSameInputs.trans h'.toSameInputs
  outMem a ha := by
    obtain ⟨hr, hrs⟩ := List.forall_mem_cons.1 ha
    exact (h'.outMem a hrs).trans (h.outMem a (by simpa using hr))

/-- One step serves the oldest request, within the frame. -/
theorem step_of_clean {s : State} {r : Request} {rest : List Request} (hp : s.pending = r :: rest) (hr : Clean s r) :
    ∃ t, step s = .next t ∧ t.pending = rest ∧ Frame [r] s t := by
  cases r with
  | decode q =>
    obtain ⟨a, hstep⟩ := exists_answer_of_keptDuties hr
    obtain ⟨hc, ho, -⟩ := hr
    exact ⟨_, hstep s rest (.refl s) hp, rfl, sameInputs_afterDecode s rest a hc ho, fun _ _ => rfl⟩
  | format q =>
    refine ⟨_, step_format hp, rfl, sameInputs_afterFormat s q rest, fun a ha => State.read_afterFormat_outside ?_⟩
    have hout : ¬(q.base ≤ a ∧ a < q.base + q.cap) := ha _ (List.mem_singleton_self _)
    omega

/-- As many steps serve any number of them. -/
theorem runs_of_clean {rest : List Request} : ∀ {rs : List Request} {s : State}, s.pending = rs ++ rest →
    (∀ r ∈ rs, Clean s r) → ∃ t, Runs rs.length s t ∧ t.pending = rest ∧ Frame rs s t := by
  intro rs
  induction rs with
  | nil => exact fun {s} hp _ => ⟨s, runs_zero s, hp, .nil s⟩
  | cons r rs ih =>
    intro s hp hclean
    obtain ⟨hr, hrs⟩ := List.forall_mem_cons.1 hclean
    obtain ⟨t, hstep, hpt, hst⟩ := step_of_clean hp hr
    obtain ⟨u, hrun, hpu, htu⟩ := ih hpt fun r' hr' => clean_of_sameInputs hst.toSameInputs (hrs r' hr')
    exact ⟨u, runs_succ hstep hrun, hpu, hst.cons htu⟩

theorem runs_one {s t : State} (h : step s = .next t) : Runs 1 s t := runs_succ h (runs_zero t)

theorem eq_of_runs_zero {s t : State} (h : Runs 0 s t) : t = s := (Host.Outcome.next.inj h).symm

/-- The first of the steps of a run, and the rest of it. -/
theorem exists_step_of_runs_succ {n : Nat} {s u : State} (h : Runs (n + 1) s u) :
    ∃ t, step s = .next t ∧ Runs n t u := by
  cases hs : step s with
  | next t =>
    have hstep : Sys2Proof.core.step s = .next t := hs
    exact ⟨t, rfl, by simpa [Runs, Host.Core.run, hstep] using h⟩
  | fault e => cases e
  | refused e =>
    have hstep : Sys2Proof.core.step s = .refused e := hs
    simp [Runs, Host.Core.run, hstep] at h

/-- Two runs in a row. -/
theorem runs_add {m n : Nat} {s t u : State} (h : Runs m s t) (h' : Runs n t u) : Runs (m + n) s u := by
  induction m generalizing s with
  | zero =>
    obtain rfl := eq_of_runs_zero h
    rwa [Nat.zero_add]
  | succ m ih =>
    obtain ⟨s', hstep, hrun⟩ := exists_step_of_runs_succ h
    rw [Nat.succ_add]
    exact runs_succ hstep (ih hrun)

theorem sameInputs_withRequests (s : State) (rs : List Request) : SameInputs s (withRequests s rs) := ⟨rfl, rfl, rfl⟩

/-- The requests at the head of a queue, served from any state in which the duties are kept. -/
theorem runs_withRequests {s : State} {before : List Request} (rest : List Request) (h : ∀ r ∈ before, Clean s r) :
    ∃ t, Runs before.length (withRequests s (before ++ rest)) t ∧ t.pending = rest ∧ Frame before s t := by
  have hsame := sameInputs_withRequests s (before ++ rest)
  obtain ⟨t, hrun, hp, hframe⟩ := runs_of_clean (s := withRequests s (before ++ rest)) rfl fun r hr =>
    clean_of_sameInputs hsame (h r hr)
  exact ⟨t, hrun, hp, hsame.trans hframe.toSameInputs, hframe.outMem⟩

/-- A format among others on other cells leaves its buffer as it does alone. -/
theorem format_among_apart_eq_alone (s : State) (before after : List Request) (p : FormatReq)
    (hclean : ∀ r ∈ before ++ .format p :: after, Clean s r) (hapart : ∀ r ∈ before ++ after, Apart p r) :
    ∃ t u, Runs (before.length + 1 + after.length) (withRequests s (before ++ .format p :: after)) t ∧
      Runs 1 (withRequests s [.format p]) u ∧
      ∀ i, i < p.cap → t.outMem.read (p.base + i) = u.outMem.read (p.base + i) := by
  obtain ⟨hbefore, hrest⟩ := List.forall_mem_append.1 hclean
  obtain ⟨hp, hafter⟩ := List.forall_mem_cons.1 hrest
  obtain ⟨hapartb, haparta⟩ := List.forall_mem_append.1 hapart
  obtain ⟨s₁, hrun₁, hp₁, hframe₁⟩ := runs_withRequests (.format p :: after) hbefore
  have hsame := hframe₁.toSameInputs
  obtain ⟨t, hrun₂, -, hframe₂⟩ := runs_of_clean (rest := []) (rs := after) (s := s₁.afterFormat p after) (by simp)
    fun r hr => clean_of_sameInputs (hsame.trans (sameInputs_afterFormat s₁ p after)) (hafter r hr)
  refine ⟨t, _, runs_add (runs_add hrun₁ (runs_one (step_format hp₁))) hrun₂, runs_one (step_format rfl),
    fun i hi => ?_⟩
  calc t.outMem.read (p.base + i)
    _ = (s₁.afterFormat p after).outMem.read (p.base + i) :=
      hframe₂.outMem _ fun r hr => not_inBuffer_of_apart (haparta r hr) hi
    _ = ((withRequests s [.format p]).afterFormat p []).outMem.read (p.base + i) :=
      State.read_afterFormat_congr hp hsame (sameInputs_withRequests s _) <|
        hframe₁.outMem _ fun r hr => not_inBuffer_of_apart (hapartb r hr) hi

/-- A decode after any other requests answers as it does alone. -/
theorem decode_after_eq_alone (s : State) (before : List Request) (q : DecodeReq)
    (hclean : ∀ r ∈ before ++ [.decode q], Clean s r) :
    ∃ t u, Runs (before.length + 1) (withRequests s (before ++ [.decode q])) t ∧
      Runs 1 (withRequests s [.decode q]) u ∧ t.decoded = u.decoded := by
  obtain ⟨hbefore, hq⟩ := List.forall_mem_append.1 hclean
  obtain ⟨s₁, hrun₁, hp₁, hframe₁⟩ := runs_withRequests [.decode q] hbefore
  obtain ⟨a, hstep⟩ := exists_answer_of_keptDuties (hq _ (List.mem_singleton_self _))
  exact ⟨_, _, runs_add hrun₁ (runs_one (hstep s₁ [] hframe₁.toSameInputs hp₁)),
    runs_one (hstep _ [] (sameInputs_withRequests s _) rfl), rfl⟩

/-- Settles O45: no request served before or after writes a cell of the format's buffer or an input of the decode. -/
theorem callsOnDisjointBuffersAreIndependent : Obligations.CallsOnDisjointBuffersAreIndependent :=
  ⟨format_among_apart_eq_alone, decode_after_eq_alone⟩

/-! ### A request served again -/

/-- Settles O46: a decode has one answer in all these states and writes no cell of its own accord; a format fixes each
cell or leaves it as it was. -/
theorem repeatingARequestChangesNothing : Obligations.RepeatingARequestChangesNothing := by
  intro s r hr
  have hone := sameInputs_withRequests s [r]
  have htwo := sameInputs_withRequests s [r, r]
  have hother (m : Memory) : SameInputs s (withRequests { s with outMem := m } [r]) := ⟨rfl, rfl, rfl⟩
  cases r with
  | decode q =>
    obtain ⟨a, hstep⟩ := exists_answer_of_keptDuties hr
    obtain ⟨hc, ho, -⟩ := hr
    have hserved (t : State) (rest : List Request) (h : SameInputs s t) :=
      h.trans (sameInputs_afterDecode t rest a hc ho)
    have honce := hserved _ [] hone
    have hfirst := hserved _ [.decode q] htwo
    have htwice := hserved _ [] hfirst
    refine ⟨_, _, runs_one (hstep _ [] hone rfl), runs_succ (hstep _ _ htwo rfl) (runs_one (hstep _ [] hfirst rfl)),
      rfl, fun _ => rfl, fun c => ?_, fun c => ?_, fun m => ⟨_, runs_one (hstep _ [] (hother m) rfl), rfl,
        fun _ => .inr ⟨rfl, rfl⟩⟩⟩
    · rw [htwice.inMem, honce.inMem]
    · rw [honce.inMem]
  | format q =>
    have hfirst := htwo.trans (sameInputs_afterFormat _ q [.format q])
    refine ⟨_, _, runs_one (step_format rfl), runs_succ (step_format rfl) (runs_one (step_format rfl)), rfl,
      fun c => ?_, fun _ => rfl, fun _ => rfl, fun m => ⟨_, runs_one (step_format rfl), rfl, fun c => ?_⟩⟩
    · rcases State.read_afterFormat_fixed_or_kept hr c with ⟨b, hb⟩ | hkept
      · rw [hb _ _ hfirst, hb _ _ hone]
      · rw [hkept _ _ hfirst, hkept _ _ htwo, hkept _ _ hone]; rfl
    · rcases State.read_afterFormat_fixed_or_kept hr c with ⟨b, hb⟩ | hkept
      · exact .inl ((hb _ _ (hother m)).trans (hb _ _ hone).symm)
      · exact .inr ⟨hkept _ _ hone, hkept _ _ (hother m)⟩

end Sys2Proof.Machine
end

section
/-! The rows of the default `MNEM_ROM` exclude each other (30_encoding.md R96, R99). -/

namespace Sys2Proof

/-- What a row tests, field by field. -/
theorem MnemRow.selects_iff {row : MnemRow} {op : BitVec 5} {f3 : BitVec 3} {f7 : BitVec 7} :
    row.selects op f3 f7 = true ↔
      op = row.opcode ∧ funct3Accepts f3 row.funct3 = true ∧ row.funct7.accepts f7 = true := by
  simp [MnemRow.selects, and_assoc]

/-- Two tests that a funct3 value passes are the same test, when both examine the field or neither does. -/
theorem eq_of_funct3Accepts {f3 : BitVec 3} {a b : Option (BitVec 3)} (h : a.isSome = b.isSome)
    (ha : funct3Accepts f3 a = true) (hb : funct3Accepts f3 b = true) : a = b :=
  match a, b, h with
  | none, none, _ => rfl
  | some _, some _, _ => congrArg some ((eq_of_beq ha).symm.trans (eq_of_beq hb))

/-- Two tests of the same bits of funct7 that a value passes are the same test. -/
theorem Funct7Sel.eq_of_accepts {f7 : BitVec 7} {a b : Funct7Sel} (h : a.ctorIdx = b.ctorIdx)
    (ha : a.accepts f7 = true) (hb : b.accepts f7 = true) : a = b :=
  match a, b, h with
  | .any, .any, _ => rfl
  | .bit5 _, .bit5 _, _ => congrArg Funct7Sel.bit5 ((eq_of_beq ha).symm.trans (eq_of_beq hb))
  | .hi5 _, .hi5 _, _ => congrArg Funct7Sel.hi5 ((eq_of_beq ha).symm.trans (eq_of_beq hb))
  | .exactly _, .exactly _, _ => congrArg Funct7Sel.exactly ((eq_of_beq ha).symm.trans (eq_of_beq hb))

/-- Under one opcode all rows examine funct3 or none does; under one funct3 they examine the same bits of funct7, and no
two ask for the same value there. -/
theorem mnemRom_dispatch : mnemRom.Pairwise fun row row' => row.opcode = row'.opcode →
    row.funct3.isSome = row'.funct3.isSome ∧ (row.funct3 = row'.funct3 →
      row.funct7.ctorIdx = row'.funct7.ctorIdx ∧ row.funct7 ≠ row'.funct7) := by
  decide

/-- No key selects both rows. -/
def MnemRow.Exclusive (row row' : MnemRow) : Prop :=
  ∀ op f3 f7, ¬(row.selects op f3 f7 = true ∧ row'.selects op f3 f7 = true)

theorem mnemRom_exclusive : mnemRom.Pairwise MnemRow.Exclusive := by
  refine mnemRom_dispatch.imp fun {row row'} hdispatch op f3 f7 ⟨h, h'⟩ => ?_
  obtain ⟨hop, h3, h7⟩ := MnemRow.selects_iff.1 h
  obtain ⟨hop', h3', h7'⟩ := MnemRow.selects_iff.1 h'
  obtain ⟨hsome, hsame⟩ := hdispatch (hop.symm.trans hop')
  obtain ⟨hbits, hne⟩ := hsame (eq_of_funct3Accepts hsome h3 h3')
  exact hne (Funct7Sel.eq_of_accepts hbits h7 h7')

/-- A key selects one row at most. -/
theorem mnemRom_row_unique {row row' : MnemRow} (hrow : row ∈ mnemRom) (hrow' : row' ∈ mnemRom) {op : BitVec 5}
    {f3 : BitVec 3} {f7 : BitVec 7} (h : row.selects op f3 f7 = true) (h' : row'.selects op f3 f7 = true) :
    row = row' := by
  have hsymm : Std.Symm MnemRow.Exclusive := ⟨fun _ _ hx op f3 f7 hboth => hx op f3 f7 hboth.symm⟩
  by_contra hne
  exact mnemRom_exclusive.forall hrow hrow' hne op f3 f7 ⟨h, h'⟩

/-- The lookup answers the selected row's mnemonic. -/
theorem romLookup_of_selects {row : MnemRow} (hrow : row ∈ mnemRom) {op : BitVec 5} {f3 : BitVec 3} {f7 : BitVec 7}
    (h : row.selects op f3 f7 = true) : romLookup mnemRom op f3 f7 = some row.mnemonic := by
  cases hlookup : romLookup mnemRom op f3 f7 with
  | none => simp [romLookup_eq_none.1 hlookup row hrow] at h
  | some m =>
    obtain ⟨row', hrow', h', rfl⟩ := romLookup_eq_some hlookup
    rw [mnemRom_row_unique hrow hrow' h h']

/-- Settles O12. -/
theorem romRowsAreExclusive : Obligations.RomRowsAreExclusive :=
  ⟨rfl, fun _ _ _ => ⟨fun _ hrow _ hrow' => mnemRom_row_unique hrow hrow', fun _ hrow => romLookup_of_selects hrow,
    romLookup_eq_none.2⟩⟩

end Sys2Proof
end

section
/-! The row of each mnemonic in the default `MNEM_ROM`, and what an instruction's word, operands, well-formedness and
unexamined bits are in terms of it. -/

namespace Sys2Proof

theorem mnemRom_find_isSome (m : Mnemonic) : (mnemRom.find? (·.mnemonic = m)).isSome = true := by
  cases m <;> decide

/-- The mnemonic's row (30_encoding.md R99). -/
def Mnemonic.row (m : Mnemonic) : MnemRow := (mnemRom.find? (·.mnemonic = m)).get (mnemRom_find_isSome m)

theorem Mnemonic.row_mem (m : Mnemonic) : m.row ∈ mnemRom := List.get_find?_mem ..

theorem Mnemonic.row_mnemonic (m : Mnemonic) : m.row.mnemonic = m := by
  have hfind := List.find?_some (Option.some_get (mnemRom_find_isSome m)).symm
  exact of_decide_eq_true hfind

theorem mnemRom_mnemonics_nodup : (mnemRom.map MnemRow.mnemonic).Nodup := by decide

/-- A row of the table is its mnemonic's. -/
theorem row_eq_of_mem {row : MnemRow} (h : row ∈ mnemRom) : row.mnemonic.row = row :=
  List.inj_on_of_nodup_map mnemRom_mnemonics_nodup (Mnemonic.row_mem _) h (Mnemonic.row_mnemonic _)

/-- The opcodes of the table are those of 32-bit forms (30_encoding.md R81, R95). -/
theorem mnemRom_opcode_low : ∀ row ∈ mnemRom, row.opcode.extractLsb' 0 3 ≠ 0b111#3 := by decide

/-- The tests of funct3 and funct7 that the rows of each shape make, and the bits of the word that neither a test nor an
operand takes (30_encoding.md R96, R97, R101). -/
inductive RowForm : Shape → Option (BitVec 3) → Funct7Sel → Word → Prop where
  | r (f3 : BitVec 3) (f7 : BitVec 7) : RowForm .r (some f3) (.exactly f7) 0
  | i (f3 : BitVec 3) : RowForm .i (some f3) .any 0
  | jalr : RowForm .i none .any 0x00007000
  | s (f3 : BitVec 3) : RowForm .s (some f3) .any 0
  | b (f3 : BitVec 3) : RowForm .b (some f3) .any 0
  | u : RowForm .u none .any 0
  | j : RowForm .j none .any 0
  | amo (f3 : BitVec 3) (f5 : BitVec 5) : RowForm .amo (some f3) (.hi5 f5) 0
  | shLeft (f3 : BitVec 3) : RowForm .sh (some f3) .any 0xFC000000
  | shRight (f3 : BitVec 3) (arith : Bool) : RowForm .sh (some f3) (.bit5 arith) 0xBC000000

/-- The funct7 that an encoder writes for a test: the bits asked for, and 0 in the others. -/
def Funct7Sel.bits : Funct7Sel → BitVec 7
  | .any => 0#7
  | .bit5 v => 0#1 ++ BitVec.ofBool v ++ 0#4 ++ 0#1
  | .hi5 v => v ++ 0#2
  | .exactly v => v

/-- The layout of a shape (30_encoding.md R86 to R93). -/
def Shape.layout (shape : Shape) (op : BitVec 5) (f3 : BitVec 3) (f7 : BitVec 7) (rd rs1 rs2 : Reg) (imm : Imm) :
    Word :=
  match shape with
  | .r => encR f7 f3 op rd rs1 rs2
  | .i => encI f3 op rd rs1 imm
  | .s => encS f3 op rs1 rs2 imm
  | .b => encB f3 op rs1 rs2 imm
  | .u => encU op rd imm
  | .j => encJ op rd imm
  | .amo => encAmo (f7.extractLsb' 2 5) f3 op rd rs1 rs2 imm
  | .sh => encSh (f7.extractLsb' 1 6) f3 op rd rs1 imm

/-- The word of a row's operands. -/
def Mnemonic.word (m : Mnemonic) (rd rs1 rs2 : Reg) (imm : Imm) : Word :=
  m.shape.layout m.row.opcode (m.row.funct3.getD 0) m.row.funct7.bits rd rs1 rs2 imm

/-- The check of an immediate that belongs to the shape. -/
def Shape.admits : Shape → Imm → Bool
  | .r, _ => true
  | .i, v | .s, v => immI v
  | .b, v => immB v
  | .u, v => immU v
  | .j, v => immJ v
  | .amo, v => immAmo v
  | .sh, v => immSh v

section
variable (m : Mnemonic) (rd rs1 rs2 : Reg) (imm : Imm)

theorem encode_withOperands : encode (m.withOperands rd rs1 rs2 imm) = m.word rd rs1 rs2 imm := by
  cases m <;> rfl

theorem wellFormed_withOperands : (m.withOperands rd rs1 rs2 imm).wellFormed = m.shape.admits imm := by
  cases m <;> rfl

theorem rowForm_withOperands :
    RowForm m.shape m.row.funct3 m.row.funct7 (Safety.unexamined (m.withOperands rd rs1 rs2 imm)) := by
  cases m <;> constructor

theorem instr_eq_withOperands (w : Word) :
    m.instr w = m.withOperands (rdOf w) (rs1Of w) (rs2Of w) (m.shape.immOf w) := by
  cases m <;> rfl

/-- Operands that the shape does not have make no difference. -/
theorem withOperands_eq_ite : m.withOperands rd rs1 rs2 imm =
    m.withOperands (if m.shape.hasRd then rd else 0) (if m.shape.hasRs1 then rs1 else 0)
      (if m.shape.hasRs2 then rs2 else 0) (if m.shape = .r then 0 else imm) := by
  cases m <;> rfl

end

/-- Every instruction is one of its row. -/
theorem exists_withOperands (i : Instr) : ∃ m rd rs1 rs2 imm, i = Mnemonic.withOperands m rd rs1 rs2 imm := by
  obtain ⟨r, -, -, hi⟩ := Machine.exec_delivers_rowRecord i
  exact ⟨_, _, _, _, _, hi.symm⟩

end Sys2Proof
end

section
/-! Fields of a word and of an immediate: pieces of pieces, and a value from its low bits. -/

namespace Sys2Proof

open Sys2Proof.Safety

@[simp] theorem regOf_regBits (r : Reg) : regOf (regBits r) = r := rfl

@[simp] theorem regBits_regOf (v : BitVec 5) : regBits (regOf v) = v := rfl

/-- The first byte holds the low bits of the word. -/
theorem extractLsb'_wordAt (f : Nat → Byte) {start len : Nat} (h : start + len ≤ 8) :
    (wordAt f).extractLsb' start len = (f 0).extractLsb' start len :=
  BitVec.extractLsb'_append_eq_of_add_le h

/-- A field of a field. -/
theorem extractLsb'_extractLsb' {n start start' len len' : Nat} (v : BitVec n) (h : start + len ≤ len') :
    (v.extractLsb' start' len').extractLsb' start len = v.extractLsb' (start' + start) len := by
  apply BitVec.eq_of_getLsbD_eq
  intro i hi
  have hlen : start + i < len' := by omega
  simp [hi, hlen, Nat.add_assoc]

/-- A sign extension keeps the fields of its source. -/
theorem extractLsb'_signExtend {n start len : Nat} (v : BitVec n) (h : start + len ≤ n) (hn : n ≤ 32) :
    (v.signExtend 32).extractLsb' start len = v.extractLsb' start len := by
  apply BitVec.eq_of_getLsbD_eq
  intro i hi
  have hlt : start + i < n := by omega
  have hlt32 : start + i < 32 := by omega
  simp only [BitVec.getLsbD_extractLsb', BitVec.getLsbD_signExtend, hlt, hlt32, if_true, decide_true, Bool.true_and]

/-- A value in the signed range of its low `n + 1` bits is their sign extension. -/
theorem signExtend_extractLsb' {n : Nat} {v : Imm} (hn : n < 32) (hlo : -2 ^ n ≤ v.toInt) (hhi : v.toInt < 2 ^ n) :
    (v.extractLsb' 0 (n + 1)).signExtend 32 = v := by
  apply BitVec.eq_of_toInt_eq
  rw [BitVec.toInt_signExtend_of_le hn, ← BitVec.setWidth_eq_extractLsb' hn, ← BitVec.signExtend_eq_setWidth_of_le v hn,
    BitVec.toInt_signExtend_eq_toInt_bmod_of_le v hn]
  refine Int.bmod_eq_of_le ?_ ?_ <;> push_cast [pow_succ] <;> omega

/-- A value below `2 ^ n` is the zero extension of its low `n` bits. -/
theorem setWidth_extractLsb' {n : Nat} {v : Imm} (hn : n ≤ 32) (h : v.toNat < 2 ^ n) :
    (v.extractLsb' 0 n).setWidth 32 = v := by
  apply BitVec.eq_of_toNat_eq
  rw [BitVec.toNat_setWidth_of_le hn, BitVec.extractLsb'_toNat, Nat.shiftRight_zero, Nat.mod_eq_of_lt h]

/-- The low bits of a multiple of `2 ^ n` are 0. -/
theorem extractLsb'_eq_zero_of_mod {n : Nat} {v : Imm} (h : v.toNat % 2 ^ n = 0) : v.extractLsb' 0 n = 0#n :=
  BitVec.eq_of_toNat_eq (by simpa using h)

/-- A value without its low bits and `n` zeros below, when it is a multiple of `2 ^ n`. -/
theorem extractLsb'_append_zero {n len : Nat} {v : Imm} (h : v.toNat % 2 ^ n = 0) :
    v.extractLsb' n len ++ 0#n = v.extractLsb' 0 (len + n) := by
  rw [← extractLsb'_eq_zero_of_mod h, BitVec.extractLsb'_append_extractLsb'_eq_extractLsb' (Nat.zero_add n).symm]

/-- An even value in the signed range of its low `n + 1` bits is the sign extension of all but the lowest, and 0. -/
theorem signExtend_extractLsb'_append_zero {n : Nat} {v : Imm} (hn : n < 32) (hlo : -2 ^ n ≤ v.toInt)
    (hhi : v.toInt < 2 ^ n) (heven : v.toNat % 2 = 0) : (v.extractLsb' 1 n ++ 0#1).signExtend 32 = v := by
  rw [extractLsb'_append_zero (n := 1) heven, signExtend_extractLsb' hn hlo hhi]

end Sys2Proof
end

section
/-! Each layout holds its fields, and each word is the layout of its fields (30_encoding.md R84 to R93). -/

namespace Sys2Proof

/-- The operand fields that the shape has are these in the word (30_encoding.md R84). -/
structure OperandsAre (shape : Shape) (w : Word) (rd rs1 rs2 : Reg) (imm : Imm) : Prop where
  rd : shape.hasRd = true → rdOf w = rd
  rs1 : shape.hasRs1 = true → rs1Of w = rs1
  rs2 : shape.hasRs2 = true → rs2Of w = rs2
  imm : shape ≠ .r → shape.immOf w = imm

/-- A row takes them from the word. -/
theorem OperandsAre.instr_eq {m : Mnemonic} {w : Word} {rd rs1 rs2 : Reg} {imm : Imm}
    (h : OperandsAre m.shape w rd rs1 rs2 imm) : m.instr w = m.withOperands rd rs1 rs2 imm := by
  rw [instr_eq_withOperands, withOperands_eq_ite, withOperands_eq_ite m rd]
  congr 1
  · exact ite_congr rfl h.rd fun _ => rfl
  · exact ite_congr rfl h.rs1 fun _ => rfl
  · exact ite_congr rfl h.rs2 fun _ => rfl
  · exact ite_congr rfl (fun _ => rfl) h.imm

section
variable {shape : Shape} {imm : Imm} (op : BitVec 5) (f3 : BitVec 3) (f7 : BitVec 7) (rd rs1 rs2 : Reg)

/-- The low seven bits of a layout are the opcode and `11`. -/
theorem layout_low7 (shape : Shape) (imm : Imm) :
    (shape.layout op f3 f7 rd rs1 rs2 imm).extractLsb' 0 7 = op ++ 0b11#2 := by
  cases shape <;> exact low7_append _ _

/-- A layout holds an immediate that its shape admits: the pieces put together are its low bits. -/
theorem immOf_layout (h : shape.admits imm = true) (hr : shape ≠ .r) :
    shape.immOf (shape.layout op f3 f7 rd rs1 rs2 imm) = imm := by
  cases shape <;> simp (disch := decide) only [Shape.layout, encI, encS, encB, encU, encJ, encAmo, encSh, Shape.immOf,
    immIOf, immSOf, immBOf, immUOf, immJOf, immAmoOf, immShOf, BitVec.extractLsb'_append_eq_of_le,
    BitVec.extractLsb'_append_eq_of_add_le, Nat.reduceSub, BitVec.extractLsb'_eq_self,
    BitVec.extractLsb'_append_extractLsb'_eq_extractLsb']
  case r => exact absurd rfl hr
  case i | s =>
    obtain ⟨hlo, hhi⟩ := of_decide_eq_true h
    exact signExtend_extractLsb' (n := 11) (by decide) hlo (by omega)
  case b =>
    obtain ⟨hlo, hhi, heven⟩ := of_decide_eq_true h
    exact signExtend_extractLsb'_append_zero (n := 12) (by decide) hlo (by omega) heven
  case u =>
    rw [extractLsb'_append_zero (n := 12) (of_decide_eq_true h)]
    exact BitVec.extractLsb'_eq_self
  case j =>
    obtain ⟨hlo, hhi, heven⟩ := of_decide_eq_true h
    exact signExtend_extractLsb'_append_zero (n := 20) (by decide) hlo (by omega) heven
  case amo | sh => exact setWidth_extractLsb' (by decide) (Nat.lt_succ_of_le (of_decide_eq_true h))

/-- A layout holds its operands. -/
theorem operandsAre_layout (h : shape.admits imm = true) :
    OperandsAre shape (shape.layout op f3 f7 rd rs1 rs2 imm) rd rs1 rs2 imm := by
  refine ⟨?_, ?_, ?_, immOf_layout op f3 f7 rd rs1 rs2 h⟩ <;> cases shape <;>
    simp (disch := decide) only [Shape.hasRd, Shape.hasRs1, Shape.hasRs2, Shape.layout, encR, encI, encS, encB, encU,
      encJ, encAmo, encSh, rdOf, rs1Of, rs2Of, BitVec.extractLsb'_append_eq_of_le,
      BitVec.extractLsb'_append_eq_of_add_le, Nat.reduceSub, BitVec.extractLsb'_eq_self, regOf_regBits, forall_const,
      Bool.false_eq_true, false_implies]

/-- A row's layout passes the row's own tests of funct3 and funct7. -/
theorem RowForm.accepts_layout {t3 : Option (BitVec 3)} {t7 : Funct7Sel} {free : Word}
    (h : RowForm shape t3 t7 free) :
    funct3Accepts (funct3Of (shape.layout op (t3.getD 0) t7.bits rd rs1 rs2 imm)) t3 = true ∧
      t7.accepts (funct7Of (shape.layout op (t3.getD 0) t7.bits rd rs1 rs2 imm)) = true := by
  cases h <;> simp (disch := decide) only [Shape.layout, encR, encI, encS, encB, encAmo, encSh, funct3Of, funct7Of,
    funct3Accepts, Funct7Sel.accepts, Funct7Sel.bits, Option.getD_some, BitVec.extractLsb'_append_eq_of_le,
    BitVec.extractLsb'_append_eq_of_add_le, Nat.reduceSub, BitVec.extractLsb'_eq_self, beq_self_eq_true, and_self,
    true_and]
  case shRight f3 arith =>
    simp only [BitVec.getLsbD_extractLsb', BitVec.getLsbD_append]
    simp

end

/-- A word that ends in `11` is, under every shape, the layout of its fields. -/
theorem layout_fields (shape : Shape) {w : Word} (h : w.extractLsb' 0 2 = 0b11#2) :
    shape.layout (opcodeOf w) (funct3Of w) (funct7Of w) (rdOf w) (rs1Of w) (rs2Of w) (shape.immOf w) = w := by
  cases shape <;> simp (disch := decide) only [Shape.layout, encR, encI, encS, encB, encU, encJ, encAmo, encSh, ← h,
    Shape.immOf, immIOf, immSOf, immBOf, immUOf, immJOf, immAmoOf, immShOf, opcodeOf, funct3Of, funct7Of, rdOf, rs1Of,
    rs2Of, regBits_regOf, extractLsb'_signExtend, BitVec.extractLsb'_setWidth_of_le, extractLsb'_extractLsb',
    BitVec.extractLsb'_append_eq_of_le, BitVec.extractLsb'_append_eq_of_add_le, Nat.reduceSub,
    BitVec.extractLsb'_append_extractLsb'_eq_extractLsb', BitVec.extractLsb'_eq_self]

/-! ### The bits that a row does not examine

A word and a mask are taken apart field by field, so both get the sum of the fields' widths as their width. -/

/-- The word with 0 in funct3 is the word with those bits cleared. -/
theorem encI_zero_funct3 (f3 : BitVec 3) (op : BitVec 5) (rd rs1 : Reg) (imm : Imm) :
    encI 0 op rd rs1 imm = encI f3 op rd rs1 imm &&& ~~~0x00007000 := by
  have hmask : (~~~0x00007000 : Word) = BitVec.allOnes 12 ++ BitVec.allOnes 5 ++ 0#3 ++ BitVec.allOnes 5 ++
    BitVec.allOnes 5 ++ BitVec.allOnes 2 := rfl
  rw [hmask, encI, encI]
  change _ = HAnd.hAnd (α := BitVec (12 + 5 + 3 + 5 + 5 + 2)) _ _
  simp only [BitVec.and_append, BitVec.and_allOnes, BitVec.and_zero]
  rfl

/-- The word with part of `word[31:26]` is the word with the rest of those bits cleared. -/
theorem encSh_and {hi hi' mask : BitVec 6} {examined : Word} (hhi : hi' = hi &&& mask)
    (hex : examined = mask ++ BitVec.allOnes 6 ++ BitVec.allOnes 5 ++ BitVec.allOnes 3 ++ BitVec.allOnes 5 ++
      BitVec.allOnes 5 ++ BitVec.allOnes 2) (f3 : BitVec 3) (op : BitVec 5) (rd rs1 : Reg) (imm : Imm) :
    encSh hi' f3 op rd rs1 imm = encSh hi f3 op rd rs1 imm &&& examined := by
  rw [hex, hhi, encSh, encSh]
  change _ = HAnd.hAnd (α := BitVec (6 + 6 + 5 + 3 + 5 + 5 + 2)) _ _
  simp only [BitVec.and_append, BitVec.and_allOnes]

/-- The right shifts' test of funct7 leaves its other bits. -/
theorem bits_bit5 (f7 : BitVec 7) :
    (Funct7Sel.bits (.bit5 (f7.getLsbD 5))).extractLsb' 1 6 = f7.extractLsb' 1 6 &&& 0b010000 := by
  revert f7; decide

/-- A test that a funct3 value passes is none, or asks for the value. -/
theorem eq_none_or_eq_some_of_funct3Accepts {f3 : BitVec 3} {t3 : Option (BitVec 3)} (h : funct3Accepts f3 t3 = true) :
    t3 = none ∨ t3 = some f3 :=
  match t3 with
  | none => .inl rfl
  | some _ => .inr (congrArg some (eq_of_beq h).symm)

/-- A row writes the fields it examines, and 0 where it examines nothing. -/
theorem RowForm.layout_eq_and {shape : Shape} {t3 : Option (BitVec 3)} {t7 : Funct7Sel} {free : Word}
    (h : RowForm shape t3 t7 free) {f3 : BitVec 3} {f7 : BitVec 7} (h3 : funct3Accepts f3 t3 = true)
    (h7 : t7.accepts f7 = true) (op : BitVec 5) (rd rs1 rs2 : Reg) (imm : Imm) :
    shape.layout op (t3.getD 0) t7.bits rd rs1 rs2 imm = shape.layout op f3 f7 rd rs1 rs2 imm &&& ~~~free := by
  rcases eq_none_or_eq_some_of_funct3Accepts h3 with rfl | rfl
  · cases h with
    | jalr => exact encI_zero_funct3 f3 op rd rs1 imm
    | u | j => exact (BitVec.and_allOnes (w := 32)).symm
  · cases h with
    | i | s | b => exact (BitVec.and_allOnes (w := 32)).symm
    | shLeft => exact encSh_and (mask := 0#6) BitVec.and_zero.symm rfl f3 op rd rs1 imm
    | r =>
      obtain rfl := eq_of_beq h7
      exact (BitVec.and_allOnes (w := 32)).symm
    | amo =>
      obtain rfl := eq_of_beq h7
      simp only [Shape.layout, Funct7Sel.bits, BitVec.extractLsb'_append_eq_left]
      exact (BitVec.and_allOnes (w := 32)).symm
    | shRight =>
      obtain rfl := eq_of_beq h7
      exact encSh_and (bits_bit5 f7) rfl f3 op rd rs1 imm

end Sys2Proof
end

section
/-! The two round trips between words and instructions (30_encoding.md R86 to R93, R101). -/

namespace Sys2Proof

open Sys2Proof.Safety

/-- The length tests read the low bits of the word. -/
theorem compressed_iff {f : Nat → Byte} : Compressed (f 0) ↔ (wordAt f).extractLsb' 0 2 ≠ 0b11#2 := by
  rw [extractLsb'_wordAt f (by decide)]

theorem overLength_iff {f : Nat → Byte} : OverLength (f 0) ↔ (wordAt f).extractLsb' 2 3 = 0b111#3 := by
  rw [extractLsb'_wordAt f (by decide)]

/-- The word of a row selects the row. -/
theorem Mnemonic.selects_word (m : Mnemonic) {w : Word} {rd rs1 rs2 : Reg} {imm : Imm} (h : w = m.word rd rs1 rs2 imm) :
    m.row.selects (opcodeOf w) (funct3Of w) (funct7Of w) = true := by
  subst h
  exact MnemRow.selects_iff.2 ⟨(fields_of_low7 _ _ (layout_low7 ..)).1,
    (rowForm_withOperands m rd rs1 rs2 imm).accepts_layout ..⟩

/-- A word that passes the length tests and selects a row decodes to the row. -/
theorem decode_of_selects {n : Nat} {f : Nat → Byte} {m : Mnemonic} (hn : 4 ≤ n)
    (hc : (wordAt f).extractLsb' 0 2 = 0b11#2) (ho : (wordAt f).extractLsb' 2 3 ≠ 0b111#3)
    (h : m.row.selects (opcodeOf (wordAt f)) (funct3Of (wordAt f)) (funct7Of (wordAt f)) = true) :
    decode mnemRom n f = .ok (m.instr (wordAt f)) := by
  rw [decode_of_complete hn (compressed_iff.not.2 (not_not.2 hc)) (overLength_iff.not.2 ho),
    romLookup_of_selects m.row_mem h, m.row_mnemonic]
  rfl

/-- Settles O1: the word of an instruction is its row's layout, which selects the row and holds the operands. -/
theorem decodeOfEncodeIsTheInstruction : Obligations.DecodeOfEncodeIsTheInstruction := by
  intro i hwf n f hn hw
  obtain ⟨m, rd, rs1, rs2, imm, rfl⟩ := exists_withOperands i
  rw [encode_withOperands] at hw
  rw [wellFormed_withOperands] at hwf
  have hlow : (wordAt f).extractLsb' 0 7 = m.row.opcode ++ 0b11#2 := hw ▸ layout_low7 ..
  obtain ⟨hc, ho⟩ := Laws.PassesLengthTests.of_low7 _ _ hlow (mnemRom_opcode_low _ m.row_mem)
  have hoperands : OperandsAre m.shape (wordAt f) rd rs1 rs2 imm := hw ▸ operandsAre_layout _ _ _ rd rs1 rs2 hwf
  rw [decode_of_selects hn hc ho (m.selects_word hw), hoperands.instr_eq]

theorem admits_immOf (shape : Shape) (w : Word) : shape.admits (shape.immOf w) = true := by
  have hrange := immInRange_immOf shape w
  cases shape with
  | r => rfl
  | i | s | b | u | j | amo | sh => exact decide_eq_true hrange

/-- The mnemonic that the lookup answers is that of the selected row. -/
theorem selects_of_romLookup {op : BitVec 5} {f3 : BitVec 3} {f7 : BitVec 7} {m : Mnemonic}
    (h : romLookup mnemRom op f3 f7 = some m) : m.row.selects op f3 f7 = true := by
  obtain ⟨row, hrow, hselects, rfl⟩ := romLookup_eq_some h
  rwa [row_eq_of_mem hrow]

/-- Settles O2: the word is the layout of its fields, of which the row's layout keeps all but the unexamined bits. -/
theorem decodeKeepsEveryExaminedBit : Obligations.DecodeKeepsEveryExaminedBit := by
  intro n f i h
  obtain ⟨-, hlow, -, m, hlookup, rfl⟩ := decode_eq_ok h
  rw [← Machine.wordAt_eq_assemble] at hlookup ⊢
  obtain ⟨hop, h3, h7⟩ := MnemRow.selects_iff.1 (selects_of_romLookup hlookup)
  have hword : (wordAt f).extractLsb' 0 2 = 0b11#2 := by rwa [extractLsb'_wordAt f (by decide)]
  refine ⟨?_, ?_⟩
  · rw [instr_eq_withOperands, wellFormed_withOperands, admits_immOf]
  · rw [instr_eq_withOperands, encode_withOperands, Mnemonic.word, (rowForm_withOperands ..).layout_eq_and h3 h7,
      ← hop, layout_fields _ hword]

end Sys2Proof
end

section
/-! The words that decode to Undefined (30_encoding.md R95, R100). -/

namespace Sys2Proof

open Sys2Proof.Safety

/-- A complete buffer is Undefined when its word fails a length test or no row is selected. -/
theorem decode_undefined_iff {rom : MnemRom} {n : Nat} {f : Nat → Byte} (hn : 4 ≤ n) :
    (∃ why, decode rom n f = .undefinedWord why) ↔ Compressed (f 0) ∨ OverLength (f 0) ∨
      romLookup rom (opcodeOf (wordAt f)) (funct3Of (wordAt f)) (funct7Of (wordAt f)) = none := by
  by_cases hc : Compressed (f 0)
  · exact iff_of_true ⟨_, decode_of_compressed (by omega) hc⟩ (.inl hc)
  by_cases ho : OverLength (f 0)
  · exact iff_of_true ⟨_, decode_of_overLength (by omega) hc ho⟩ (.inr (.inl ho))
  rw [decode_of_complete hn hc ho]
  cases romLookup rom (opcodeOf (wordAt f)) (funct3Of (wordAt f)) (funct7Of (wordAt f)) <;> simp [hc, ho]

/-- The tests of funct7 at an opcode and a funct3: one for each row there. -/
def funct7Tests (op : BitVec 5) (f3 : BitVec 3) : List Funct7Sel :=
  (mnemRom.filter fun row => op == row.opcode && funct3Accepts f3 row.funct3).map MnemRow.funct7

/-- A key has no row when it passes no test at its opcode and funct3. -/
theorem romLookup_eq_none_iff_funct7Tests {op : BitVec 5} {f3 : BitVec 3} {f7 : BitVec 7} :
    romLookup mnemRom op f3 f7 = none ↔ ∀ t ∈ funct7Tests op f3, t.accepts f7 = false := by
  rw [romLookup_eq_none, funct7Tests, List.forall_mem_map]
  refine ⟨fun h row hrow => ?_, fun h row hrow => ?_⟩
  · obtain ⟨hmem, hkey⟩ := List.mem_filter.1 hrow
    simpa [MnemRow.selects, hkey] using h row hmem
  · rw [MnemRow.selects, Bool.and_eq_false_imp]
    exact fun hkey => h row (List.mem_filter.2 ⟨hrow, hkey⟩)

/-! ### The opcodes whose rows examine funct7 for a value -/

theorem forall_hi5_accepts_eq_false {f7 : BitVec 7} {vs : List (BitVec 5)} :
    (∀ t ∈ vs.map Funct7Sel.hi5, t.accepts f7 = false) ↔ f7.extractLsb' 2 5 ∉ vs := by
  simp [Funct7Sel.accepts, List.forall_mem_ne]

theorem forall_exactly_accepts_eq_false {f7 : BitVec 7} {vs : List (BitVec 7)} :
    (∀ t ∈ vs.map Funct7Sel.exactly, t.accepts f7 = false) ↔ f7 ∉ vs := by
  simp [Funct7Sel.accepts, List.forall_mem_ne]

/-- Opcode 0x0B (44_atomic.md R240). -/
theorem funct7Tests_atomic : ∀ f3, funct7Tests 0x0B f3 = (if f3 ∈ ([2, 3] : List (BitVec 3)) then
    [0b00010, 0b00011, 0b00001, 0b00000, 0b00100, 0b01100, 0b01000, 0b10000, 0b10100, 0b11000, 0b11100]
    else []).map .hi5 := by
  decide

/-- Opcode 0x0C (43_integer_register.md R200). -/
theorem funct7Tests_register : ∀ f3, funct7Tests 0x0C f3 =
    (if f3 ∈ ([0, 5] : List (BitVec 3)) then [0x00, 0x20, 0x01] else [0x00, 0x01]).map .exactly := by
  decide

/-- Opcode 0x0E (43_integer_register.md R201). -/
theorem funct7Tests_narrowRegister : ∀ f3, funct7Tests 0x0E f3 =
    (if f3 ∈ ([0, 5] : List (BitVec 3)) then [0x00, 0x20, 0x01] else if f3 = 1 then [0x00]
    else if f3 ∈ ([2, 3] : List (BitVec 3)) then [] else [0x01]).map .exactly := by
  decide

section
variable {f3 : BitVec 3} {f7 : BitVec 7}

theorem romLookup_atomic_eq_none_iff : romLookup mnemRom 0x0B f3 f7 = none ↔ f3 ∉ ([2, 3] : List (BitVec 3)) ∨
    f7.extractLsb' 2 5 ∉ ([0b00000, 0b00001, 0b00010, 0b00011, 0b00100, 0b01000, 0b01100, 0b10000, 0b10100, 0b11000,
      0b11100] : List (BitVec 5)) := by
  rw [romLookup_eq_none_iff_funct7Tests, funct7Tests_atomic, forall_hi5_accepts_eq_false]
  generalize f7.extractLsb' 2 5 = f5
  revert f3 f5
  decide

theorem romLookup_register_eq_none_iff : romLookup mnemRom 0x0C f3 f7 = none ↔
    f7 ∉ ([0x00, 0x01, 0x20] : List (BitVec 7)) ∨ (f7 = 0x20#7 ∧ f3 ∉ ([0, 5] : List (BitVec 3))) := by
  rw [romLookup_eq_none_iff_funct7Tests, funct7Tests_register, forall_exactly_accepts_eq_false]
  split <;> grind

theorem romLookup_narrowRegister_eq_none_iff : romLookup mnemRom 0x0E f3 f7 = none ↔
    f7 ∉ ([0x00, 0x01, 0x20] : List (BitVec 7)) ∨ (f7 = 0x00#7 ∧ f3 ∉ ([0, 1, 5] : List (BitVec 3))) ∨
      (f7 = 0x20#7 ∧ f3 ∉ ([0, 5] : List (BitVec 3))) ∨ (f7 = 0x01#7 ∧ f3 ∈ ([1, 2, 3] : List (BitVec 3))) := by
  rw [romLookup_eq_none_iff_funct7Tests, funct7Tests_narrowRegister, forall_exactly_accepts_eq_false]
  split_ifs <;> grind

end

/-- Elsewhere an opcode and a funct3 have no row, or rows for every funct7. -/
theorem funct7Tests_other : ∀ op f3, op ∉ ([0x0B, 0x0C, 0x0E] : List (BitVec 5)) →
    funct7Tests op f3 ∈ ([[], [.any], [.bit5 false, .bit5 true]] : List (List Funct7Sel)) := by
  decide

/-- Elsewhere a key has no row when its opcode and funct3 have none. -/
theorem romLookup_eq_none_iff_of_other {op : BitVec 5} (h : op ∉ ([0x0B, 0x0C, 0x0E] : List (BitVec 5)))
    {f3 : BitVec 3} {f7 : BitVec 7} : romLookup mnemRom op f3 f7 = none ↔ funct7Tests op f3 = [] := by
  have htests := funct7Tests_other op f3 h
  rw [romLookup_eq_none_iff_funct7Tests]
  simp only [List.mem_cons, List.not_mem_nil, or_false] at htests
  rcases htests with ht | ht | ht <;> simp [ht, Funct7Sel.accepts]

/-- Which opcodes and funct3 positions these are (30_encoding.md R95 and the family tables R150, R151, R170, R171, R270,
R290, R291). -/
theorem funct7Tests_eq_nil_iff : ∀ op f3, op ∉ ([0x0B, 0x0C, 0x0E] : List (BitVec 5)) → (funct7Tests op f3 = [] ↔
    op ∉ ([0x00, 0x03, 0x04, 0x05, 0x06, 0x08, 0x0B, 0x0C, 0x0D, 0x0E, 0x18, 0x19, 0x1B, 0x1C] : List (BitVec 5)) ∨
    (op = 0x00#5 ∧ f3 = 7#3) ∨ (op = 0x03#5 ∧ 2 ≤ f3.toNat) ∨
    (op = 0x06#5 ∧ f3 ∈ ([2, 3, 4, 6, 7] : List (BitVec 3))) ∨ (op = 0x08#5 ∧ 4 ≤ f3.toNat) ∨
    (op = 0x18#5 ∧ f3 ∈ ([2, 3] : List (BitVec 3))) ∨ (op = 0x1C#5 ∧ f3 = 4#3)) := by
  decide

/-- Settles O13: the tables of funct7 tests say which keys have no row. -/
theorem undefinedWordsAreTheListedOnes : Obligations.UndefinedWordsAreTheListedOnes := by
  intro n f hn
  rw [decode_undefined_iff hn, compressed_iff, overLength_iff]
  refine or_congr Iff.rfl (or_congr Iff.rfl ?_)
  have hhi : (wordAt f).extractLsb' 27 5 = ((wordAt f).extractLsb' 25 7).extractLsb' 2 5 :=
    (extractLsb'_extractLsb' (wordAt f) (start := 2) (len := 5) (len' := 7) (by decide)).symm
  simp only [opcodeOf, funct3Of, funct7Of, hhi]
  generalize (wordAt f).extractLsb' 2 5 = op, (wordAt f).extractLsb' 12 3 = f3, (wordAt f).extractLsb' 25 7 = f7
  by_cases hop : op ∈ ([0x0B, 0x0C, 0x0E] : List (BitVec 5))
  · simp only [List.mem_cons, List.not_mem_nil, or_false] at hop
    rcases hop with rfl | rfl | rfl
    · rw [romLookup_atomic_eq_none_iff]; simp
    · rw [romLookup_register_eq_none_iff]; simp
    · rw [romLookup_narrowRegister_eq_none_iff]; simp
  · rw [romLookup_eq_none_iff_of_other hop, funct7Tests_eq_nil_iff op f3 hop]
    simp only [List.mem_cons, List.not_mem_nil, or_false, not_or, BitVec.ofNat_eq_ofNat] at hop
    obtain ⟨hB, hC, hE⟩ := hop
    simp only [hB, hC, hE, false_and, false_or]

end Sys2Proof
end

section
/-! The extremes of the immediates (30_encoding.md R94). -/

namespace Sys2Proof

/-- A small unsigned value is its signed value. -/
theorem toInt_range_of_toNat_le {v : Imm} {k : Nat} (h : v.toNat ≤ k) (hk : k < 2 ^ 31) :
    0 ≤ v.toInt ∧ v.toInt ≤ k := by
  rw [BitVec.toInt_eq_toNat_of_lt (by omega)]
  omega

/-- The largest multiple of 4096 (30_encoding.md R90). -/
theorem toInt_le_of_toNat_mod {v : Imm} (h : v.toNat % 4096 = 0) : v.toInt ≤ 2147479552 := by
  have hlt := v.isLt
  rw [BitVec.toInt_eq_toNat_cond]
  split <;> omega

/-- Settles O28: the ranges are those of every word's immediate, and each extreme is computed from its bits. -/
theorem immediateExtremes : Obligations.ImmediateExtremes := by
  intro w
  have hu := immInRange_immOf .u w
  refine ⟨rfl, immInRange_immOf .i w, ?_, ?_, immInRange_immOf .s w, ?_, ?_, immInRange_immOf .b w, ?_, ?_,
    ⟨BitVec.le_toInt _, toInt_le_of_toNat_mod hu, hu⟩, ?_, ?_, immInRange_immOf .j w, ?_, ?_,
    toInt_range_of_toNat_le (immInRange_immOf .amo w) (by decide), ?_, ?_,
    toInt_range_of_toNat_le (immInRange_immOf .sh w) (by decide), ?_, ?_⟩ <;> intros <;>
    simp only [Shape.immOf, immIOf, immSOf, immBOf, immUOf, immJOf, immAmoOf, immShOf, *] <;> rfl

end Sys2Proof
end

section
/-! The outcome of a complete decode by its lookup, in the order of the tests and for each row of the default `MNEM_ROM`
(40_decode_pipeline.md R132, R134). -/

namespace Sys2Proof

open Sys2Proof.Machine Sys2Proof.Safety

section
variable {rom : MnemRom} {n : Nat} {f : Nat → Byte}

theorem decode_of_romLookup_none (hn : 4 ≤ n) (hc : ¬Compressed (f 0)) (ho : ¬OverLength (f 0))
    (h : romLookup rom (opcodeOf (wordAt f)) (funct3Of (wordAt f)) (funct7Of (wordAt f)) = none) :
    decode rom n f = .undefinedWord .noRow := by
  rw [decode_of_complete hn hc ho, h, Option.elim_none]

theorem decode_of_romLookup_some {m : Mnemonic} (hn : 4 ≤ n) (hc : ¬Compressed (f 0)) (ho : ¬OverLength (f 0))
    (h : romLookup rom (opcodeOf (wordAt f)) (funct3Of (wordAt f)) (funct7Of (wordAt f)) = some m) :
    decode rom n f = .ok (m.instr (wordAt f)) := by
  rw [decode_of_complete hn hc ho, h, Option.elim_some]

end

/-- Settles O11: the lookup answers the row's mnemonic, whose meaning delivers the multiplexer's record. -/
theorem rowsDecodeWhateverTheirOperands : Obligations.RowsDecodeWhateverTheirOperands :=
  fun _ hrow _ _ _ hn hc ho hselects =>
    ⟨_, decode_of_romLookup_some hn hc ho (romLookup_of_selects hrow hselects), exec_instr ..⟩

/-- Settles O7: one lemma for each outcome. -/
theorem decodeTestsInOrder : Obligations.DecodeTestsInOrder := fun _ _ _ =>
  ⟨decode_of_lt_two, decode_of_compressed, decode_of_overLength, fun _ => decode_of_incomplete,
    decode_of_romLookup_none, fun _ => decode_of_romLookup_some⟩

end Sys2Proof
end

section
/-! What a step that serves a decode does when the caller keeps its duties, and that every step answers
(40_decode_pipeline.md R131, R133, R136). -/

namespace Sys2Proof.Machine

open Sys2Proof.Safety

/-- Serving a decode only takes the request from the queue, when the caller changes and overlaps no cell. -/
theorem State.afterDecode_eq_served {q : DecodeReq} (s : State) (rest : List Request) (hc : q.changes = [])
    (ho : q.overlap = []) : s.afterDecode q rest = s.served rest :=
  congrArg (fun cells => { s.served rest with inMem := cells }) (s.afterDecode_inMem_stable q rest hc ho)

/-- When the caller keeps its duties, the byte that a decode reads is the one in the input storage. -/
theorem read_of_keptDuties {s : State} {q : DecodeReq} {i : Nat} (h : KeptDuties s q) (hi : i < q.inLen) (hi4 : i < 4) :
    s.inMem.read (q.base + i) = some (inByte s q i) := by
  obtain ⟨hc, ho, hbytes⟩ := h
  obtain ⟨b, hb⟩ := Option.isSome_iff_exists.1 (hbytes i hi hi4)
  rw [inByte_stable s q i hc ho, suppliedByte_present hb, hb]

/-- Settles O31: whatever the decode finds, the step is the served state with the answer on the outputs. -/
theorem decodeHasNoSideEffects : Obligations.DecodeHasNoSideEffects := by
  intro s q rest hp hc ho
  obtain ⟨a, ha⟩ := exists_answers (fetch s q)
  exact ⟨_, a, step_decode_of_answers hp ha, congrArg (State.answer · a) (s.afterDecode_eq_served rest hc ho)⟩

/-- Settles O6: a decode that finds an instruction has a complete buffer, so the bytes it reads are cells that a caller
who keeps its duties holds. -/
theorem stepRunsTheDecodedInstruction : Obligations.StepRunsTheDecodedInstruction := by
  intro s q rest i hp hf
  refine ⟨step_decode_ok hp hf, fun hq => ?_⟩
  obtain ⟨hn, -⟩ := decode_eq_ok hf
  have ⟨hc, ho, _⟩ := hq
  exact ⟨fun j hj => read_of_keptDuties hq (by omega) hj, s.afterDecode_eq_served rest hc ho⟩

/-- Settles O41: an idle step answers its own state, a format the written buffer, and a decode one of its outcomes. -/
theorem everyStepAnswers : Obligations.EveryStepAnswers := by
  intro s
  match hp : s.pending with
  | [] => exact ⟨_, step_idle hp⟩
  | .format _ :: _ => exact ⟨_, step_format hp⟩
  | .decode q :: _ =>
    obtain ⟨_, ha⟩ := exists_answers (fetch s q)
    exact ⟨_, step_decode_of_answers hp ha⟩

end Sys2Proof.Machine
end

section
/-! The words that decode to a mnemonic of the default `MNEM_ROM`: those with the row's match under its mask
(40_decode_pipeline.md section 4). -/

namespace Sys2Proof

open Sys2Proof.Safety

/-- The bits of funct7 that a test examines. -/
def Funct7Sel.mask : Funct7Sel → BitVec 7
  | .any => 0#7
  | .bit5 _ => 0b0100000#7
  | .hi5 _ => BitVec.allOnes 5 ++ 0#2
  | .exactly _ => BitVec.allOnes 7

/-- The bits of funct3 that a test examines: all of them or none. -/
def funct3Mask (t3 : Option (BitVec 3)) : BitVec 3 := t3.elim 0#3 fun _ => BitVec.allOnes 3

/-- The bits of a word that a row examines: the opcode and the low two bits, and the bits of its tests. -/
def MnemRow.wordMask (row : MnemRow) : Word :=
  encR row.funct7.mask (funct3Mask row.funct3) (BitVec.allOnes 5) 0 0 0

/-- The values that the row asks for there, and 0 elsewhere. -/
def MnemRow.wordMatch (row : MnemRow) : Word := encR row.funct7.bits (row.funct3.getD 0) row.opcode 0 0 0

/-- Two values appended from parts of the same widths are equal when their parts are. -/
theorem bitVec_append_inj {m n : Nat} {x x' : BitVec m} {y y' : BitVec n} : x ++ y = x' ++ y' ↔ x = x' ∧ y = y' := by
  refine ⟨fun h => ?_, fun ⟨hx, hy⟩ => hx ▸ hy ▸ rfl⟩
  have hx := congrArg (BitVec.extractLsb' n m) h
  have hy := congrArg (BitVec.extractLsb' 0 n) h
  simp only [BitVec.extractLsb'_append_eq_left] at hx
  simp only [BitVec.extractLsb'_append_eq_right] at hy
  exact ⟨hx, hy⟩

/-- A test of funct7 compares the bits it examines. -/
theorem Funct7Sel.accepts_iff_and_mask (t : Funct7Sel) (f7 : BitVec 7) :
    t.accepts f7 = true ↔ f7 &&& t.mask = t.bits := by
  cases t with
  | any => simp [accepts, mask, bits]
  | bit5 v => revert f7 v; decide
  | hi5 v =>
    have hf7 : f7.extractLsb' 2 5 ++ f7.extractLsb' 0 2 = f7 := by
      simp (disch := decide) only [BitVec.extractLsb'_append_extractLsb'_eq_extractLsb', BitVec.extractLsb'_eq_self]
    conv_rhs => rw [← hf7, mask, bits, BitVec.and_append, bitVec_append_inj, BitVec.and_allOnes, BitVec.and_zero]
    simp [accepts]
  | exactly v => rw [accepts, mask, bits, BitVec.and_allOnes, beq_iff_eq]

theorem funct3Accepts_iff_and_mask (t3 : Option (BitVec 3)) (f3 : BitVec 3) :
    funct3Accepts f3 t3 = true ↔ f3 &&& funct3Mask t3 = t3.getD 0 := by
  cases t3 with
  | none => simp [funct3Accepts, funct3Mask]
  | some v => rw [funct3Accepts, funct3Mask, Option.elim_some, Option.getD_some, BitVec.and_allOnes, beq_iff_eq]

/-- A word is put together of its fields. -/
theorem fields_append (w : Word) : funct7Of w ++ w.extractLsb' 20 5 ++ w.extractLsb' 15 5 ++ funct3Of w ++
    w.extractLsb' 7 5 ++ opcodeOf w ++ w.extractLsb' 0 2 = w := by
  simp (disch := decide) only [funct7Of, funct3Of, opcodeOf, BitVec.extractLsb'_append_extractLsb'_eq_extractLsb',
    BitVec.extractLsb'_eq_self]

/-- The word ends in `11` and selects the row when it has the row's match under its mask. -/
theorem MnemRow.selects_iff_and_mask (row : MnemRow) (w : Word) :
    w.extractLsb' 0 2 = 0b11#2 ∧ row.selects (opcodeOf w) (funct3Of w) (funct7Of w) = true ↔
      w &&& row.wordMask = row.wordMatch := by
  have hzero : regBits 0 = 0#5 := rfl
  have hones : (0b11#2 : BitVec 2) = BitVec.allOnes 2 := rfl
  rw [MnemRow.selects_iff, funct3Accepts_iff_and_mask, Funct7Sel.accepts_iff_and_mask]
  conv_rhs => rw [← fields_append w, wordMask, wordMatch, encR, encR]
  change _ ↔ HAnd.hAnd (α := BitVec (7 + 5 + 5 + 3 + 5 + 5 + 2)) _ _ = _
  simp only [BitVec.and_append, bitVec_append_inj, hzero, hones, BitVec.and_zero, BitVec.and_allOnes]
  tauto

theorem Mnemonic.mnemonic_instr (m : Mnemonic) (w : Word) : (m.instr w).mnemonic = m := by
  cases m <;> rfl

/-- Among complete buffers, exactly those with the row's match under its mask decode to the mnemonic, with the operands
that its row takes from the word. -/
theorem rowEncoding_of_instr (m : Mnemonic) {mk : Word → Instr} (h : ∀ w, m.instr w = mk w) :
    RowEncoding mk m.row.wordMatch m.row.wordMask := by
  intro n f hn
  rw [← h, ← MnemRow.selects_iff_and_mask]
  constructor
  · intro h
    obtain ⟨-, hlow, -, m', hlookup, hinstr⟩ := decode_eq_ok h
    rw [← Machine.wordAt_eq_assemble] at hlookup hinstr
    obtain rfl : m = m' := by simpa only [Mnemonic.mnemonic_instr] using congrArg Instr.mnemonic hinstr
    exact ⟨by rwa [extractLsb'_wordAt f (by decide)], selects_of_romLookup hlookup⟩
  · intro ⟨hlow, hselects⟩
    refine decode_of_selects hn hlow (fun hover => mnemRom_opcode_low _ m.row_mem ?_) hselects
    rw [← (MnemRow.selects_iff.1 hselects).1, opcodeOf, extractLsb'_extractLsb' _ (by decide), hover]

end Sys2Proof
end

section
/-! Loads and stores (41_loads_stores.md), and the frame of every meaning. -/

namespace Sys2Proof.Machine

open Sys2Proof.Safety

theorem regText_some (n : Reg) : regText (some n) = rText n := rfl

theorem immText_eq_iText (v : Imm) : immText v = iText v := rfl

/-- A meaning that delivers a record whose mnemonic has a token. -/
theorem rowDelivers_of_exec {i : Instr} {r : Record} {token : List Byte}
    (hexec : ∀ s, exec i s = .next (s.deliver r)) (ht : tokenOf nameRom r.mnemonic = some token) :
    RowDelivers i r (token ++ regText r.rd ++ regText r.rs1 ++ regText r.rs2 ++ regText r.rs3 ++ immText r.imm) :=
  ⟨hexec, by rw [fullText, ht]⟩

/-- A row of the integer-immediate shape, from its arm of `Mnemonic.instr`, its arm of `exec` and its token. -/
theorem rowI_of_arms (m : Mnemonic) {mk : Reg → Reg → Imm → Instr} {token : String}
    (hinstr : ∀ w, m.instr w = mk (rdOf w) (rs1Of w) (immIOf w))
    (hexec : ∀ rd rs1 imm s, exec (mk rd rs1 imm) s = .next (s.deliver (recI m rd rs1 imm)))
    (ht : tokenOf nameRom m.code = some (ascii token)) : RowI mk m.code token m.row.wordMatch m.row.wordMask := by
  refine ⟨rowEncoding_of_instr m hinstr, fun rd rs1 imm => ?_⟩
  simpa [recI, regText_some, immText_eq_iText] using rowDelivers_of_exec (hexec rd rs1 imm) ht

/-- A row of the store shape, likewise. -/
theorem rowS_of_arms (m : Mnemonic) {mk : Reg → Reg → Imm → Instr} {token : String}
    (hinstr : ∀ w, m.instr w = mk (rs1Of w) (rs2Of w) (immSOf w))
    (hexec : ∀ rs1 rs2 imm s, exec (mk rs1 rs2 imm) s = .next (s.deliver (recS m rs1 rs2 imm)))
    (ht : tokenOf nameRom m.code = some (ascii token)) : RowS mk m.code token m.row.wordMatch m.row.wordMask := by
  refine ⟨rowEncoding_of_instr m hinstr, fun rs1 rs2 imm => ?_⟩
  simpa [recS, regText_some, immText_eq_iText] using rowDelivers_of_exec (hexec rs1 rs2 imm) ht

/-- Settles O14: each load's opcode and funct3 make its match and mask, and its arms are those of the shape. -/
theorem loadRows : Obligations.LoadRows := by
  refine ⟨rowI_of_arms .lb ?_ ?_ ?_, rowI_of_arms .lh ?_ ?_ ?_, rowI_of_arms .lw ?_ ?_ ?_, rowI_of_arms .ld ?_ ?_ ?_,
    rowI_of_arms .lbu ?_ ?_ ?_, rowI_of_arms .lhu ?_ ?_ ?_, rowI_of_arms .lwu ?_ ?_ ?_⟩ <;> intros <;> rfl

/-- Settles O15: each store's opcode and funct3 make its match and mask, and its arms are those of the shape. -/
theorem storeRows : Obligations.StoreRows := by
  refine ⟨rowS_of_arms .sb ?_ ?_ ?_, rowS_of_arms .sh ?_ ?_ ?_, rowS_of_arms .sw ?_ ?_ ?_,
    rowS_of_arms .sd ?_ ?_ ?_⟩ <;> intros <;> rfl

/-- Settles O30: every meaning delivers a record, and a delivery writes the Decoder's outputs alone. -/
theorem meaningsTouchOnlyTheOutputs : Obligations.MeaningsTouchOnlyTheOutputs := by
  intro i s t h
  obtain ⟨r, hr⟩ := exec_delivers i s
  obtain rfl : s.deliver r = t := by simpa using hr.symm.trans h
  simp

/-- Settles O50, by decoding the twelve words. -/
theorem wordsOfTheSpecDecode : Obligations.WordsOfTheSpecDecode := by
  unfold Obligations.WordsOfTheSpecDecode
  decide

end Sys2Proof.Machine
end

section
/-! Integer-immediate, shift-immediate and upper-immediate rows (42_integer_immediate.md). -/

namespace Sys2Proof.Machine

open Sys2Proof.Safety

/-- A row of the immediate-shift-amount shape, from its arm of `Mnemonic.instr`, its arm of `exec` and its token. -/
theorem rowSh_of_arms (m : Mnemonic) {mk : Reg → Reg → Imm → Instr} {token : String}
    (hinstr : ∀ w, m.instr w = mk (rdOf w) (rs1Of w) (immShOf w))
    (hexec : ∀ rd rs1 imm s, exec (mk rd rs1 imm) s = .next (s.deliver (recSh m rd rs1 imm)))
    (ht : tokenOf nameRom m.code = some (ascii token)) : RowSh mk m.code token m.row.wordMatch m.row.wordMask := by
  refine ⟨rowEncoding_of_instr m hinstr, fun rd rs1 imm => ?_⟩
  simpa [recSh, regText_some, immText_eq_iText] using rowDelivers_of_exec (hexec rd rs1 imm) ht

/-- A row of the upper-immediate shape, likewise. -/
theorem rowU_of_arms (m : Mnemonic) {mk : Reg → Imm → Instr} {token : String}
    (hinstr : ∀ w, m.instr w = mk (rdOf w) (immUOf w))
    (hexec : ∀ rd imm s, exec (mk rd imm) s = .next (s.deliver (recU m rd imm)))
    (ht : tokenOf nameRom m.code = some (ascii token)) : RowU mk m.code token m.row.wordMatch m.row.wordMask := by
  refine ⟨rowEncoding_of_instr m hinstr, fun rd imm => ?_⟩
  simpa [recU, regText_some, immText_eq_iText] using rowDelivers_of_exec (hexec rd imm) ht

/-- Settles O16: each row's opcode and funct3 make its match and mask, and its arms are those of the shape. -/
theorem immediateRows : Obligations.ImmediateRows := by
  refine ⟨rowI_of_arms .addi ?_ ?_ ?_, rowI_of_arms .slti ?_ ?_ ?_, rowI_of_arms .sltiu ?_ ?_ ?_,
    rowI_of_arms .xori ?_ ?_ ?_, rowI_of_arms .ori ?_ ?_ ?_, rowI_of_arms .andi ?_ ?_ ?_,
    rowI_of_arms .addiw ?_ ?_ ?_⟩ <;> intros <;> rfl

/-- Settles O17: each shift's opcode, funct3 and, for a right shift, bit 5 of funct7 make its match and mask, and its arms
are those of the shape. -/
theorem shiftImmediateRows : Obligations.ShiftImmediateRows := by
  refine ⟨rowSh_of_arms .slli ?_ ?_ ?_, rowSh_of_arms .srli ?_ ?_ ?_, rowSh_of_arms .srai ?_ ?_ ?_,
    rowSh_of_arms .slliw ?_ ?_ ?_, rowSh_of_arms .srliw ?_ ?_ ?_, rowSh_of_arms .sraiw ?_ ?_ ?_⟩ <;> intros <;> rfl

/-- Settles O18: each row's opcode alone makes its match and mask, and its arms are those of the shape. -/
theorem upperImmediateRows : Obligations.UpperImmediateRows := by
  refine ⟨rowU_of_arms .lui ?_ ?_ ?_, rowU_of_arms .auipc ?_ ?_ ?_⟩ <;> intros <;> rfl

end Sys2Proof.Machine
end

section
/-! Integer register rows (43_integer_register.md). -/

namespace Sys2Proof.Machine

open Sys2Proof.Safety

/-- A row of the register-register shape, from its arm of `Mnemonic.instr`, its arm of `exec` and its token. Its record has
the immediate 0, which has no text. -/
theorem rowR_of_arms (m : Mnemonic) {mk : Reg → Reg → Reg → Instr} {token : String}
    (hinstr : ∀ w, m.instr w = mk (rdOf w) (rs1Of w) (rs2Of w))
    (hexec : ∀ rd rs1 rs2 s, exec (mk rd rs1 rs2) s = .next (s.deliver (recR m rd rs1 rs2)))
    (ht : tokenOf nameRom m.code = some (ascii token)) : RowR mk m.code token m.row.wordMatch m.row.wordMask := by
  refine ⟨rowEncoding_of_instr m hinstr, fun rd rs1 rs2 => ?_⟩
  simpa only [recR, regText_some, regText_none, immText_zero, List.append_nil] using
    rowDelivers_of_exec (hexec rd rs1 rs2) ht

/-- Settles O19: each row's opcode, funct3 and funct7 make its match and mask, and its arms are those of the shape. -/
theorem registerRows : Obligations.RegisterRows := by
  refine ⟨rowR_of_arms .add ?_ ?_ ?_, rowR_of_arms .sub ?_ ?_ ?_, rowR_of_arms .sll ?_ ?_ ?_,
    rowR_of_arms .slt ?_ ?_ ?_, rowR_of_arms .sltu ?_ ?_ ?_, rowR_of_arms .xor ?_ ?_ ?_, rowR_of_arms .srl ?_ ?_ ?_,
    rowR_of_arms .sra ?_ ?_ ?_, rowR_of_arms .or ?_ ?_ ?_, rowR_of_arms .and ?_ ?_ ?_⟩ <;> intros <;> rfl

/-- Settles O20: each row shares the opcode and the funct7 of its family, its funct3 completes its match, and its arms are
those of the shape. -/
theorem multiplyDivideRows : Obligations.MultiplyDivideRows := by
  refine ⟨rowR_of_arms .mul ?_ ?_ ?_, rowR_of_arms .mulh ?_ ?_ ?_, rowR_of_arms .mulhsu ?_ ?_ ?_,
    rowR_of_arms .mulhu ?_ ?_ ?_, rowR_of_arms .div ?_ ?_ ?_, rowR_of_arms .divu ?_ ?_ ?_, rowR_of_arms .rem ?_ ?_ ?_,
    rowR_of_arms .remu ?_ ?_ ?_⟩ <;> intros <;> rfl

/-- Settles O21: each row's opcode, funct3 and funct7 make its match and mask, and its arms are those of the shape. -/
theorem narrowRegisterRows : Obligations.NarrowRegisterRows := by
  refine ⟨rowR_of_arms .addw ?_ ?_ ?_, rowR_of_arms .subw ?_ ?_ ?_, rowR_of_arms .sllw ?_ ?_ ?_,
    rowR_of_arms .srlw ?_ ?_ ?_, rowR_of_arms .sraw ?_ ?_ ?_, rowR_of_arms .mulw ?_ ?_ ?_, rowR_of_arms .divw ?_ ?_ ?_,
    rowR_of_arms .divuw ?_ ?_ ?_, rowR_of_arms .remw ?_ ?_ ?_, rowR_of_arms .remuw ?_ ?_ ?_⟩ <;> intros <;> rfl

end Sys2Proof.Machine
end

section
/-! Atomic-memory rows (44_atomic.md). -/

namespace Sys2Proof.Machine

open Sys2Proof.Safety

/-- A row of the atomic-memory shape, from its arm of `Mnemonic.instr`, its arm of `exec` and its token. -/
theorem rowAmo_of_arms (m : Mnemonic) {mk : Reg → Reg → Reg → Imm → Instr} {token : String}
    (hinstr : ∀ w, m.instr w = mk (rdOf w) (rs1Of w) (rs2Of w) (immAmoOf w))
    (hexec : ∀ rd rs1 rs2 imm s, exec (mk rd rs1 rs2 imm) s = .next (s.deliver (recAmo m rd rs1 rs2 imm)))
    (ht : tokenOf nameRom m.code = some (ascii token)) : RowAmo mk m.code token m.row.wordMatch m.row.wordMask := by
  refine ⟨rowEncoding_of_instr m hinstr, fun rd rs1 rs2 imm => ?_⟩
  simpa only [recAmo, regText_some, regText_none, immText_eq_iText, List.append_nil] using
    rowDelivers_of_exec (hexec rd rs1 rs2 imm) ht

/-- Settles O22: each row's opcode, funct3 and upper five bits of funct7 make its match and mask, the ordering bits staying
unexamined, and its arms are those of the shape. -/
theorem atomicWordRows : Obligations.AtomicWordRows := by
  refine ⟨rowAmo_of_arms .lrW ?_ ?_ ?_, rowAmo_of_arms .scW ?_ ?_ ?_, rowAmo_of_arms .amoswapW ?_ ?_ ?_,
    rowAmo_of_arms .amoaddW ?_ ?_ ?_, rowAmo_of_arms .amoxorW ?_ ?_ ?_, rowAmo_of_arms .amoandW ?_ ?_ ?_,
    rowAmo_of_arms .amoorW ?_ ?_ ?_, rowAmo_of_arms .amominW ?_ ?_ ?_, rowAmo_of_arms .amomaxW ?_ ?_ ?_,
    rowAmo_of_arms .amominuW ?_ ?_ ?_, rowAmo_of_arms .amomaxuW ?_ ?_ ?_⟩ <;> intros <;> rfl

/-- Settles O23: as the word rows, with the doubleword's funct3. -/
theorem atomicDoubleRows : Obligations.AtomicDoubleRows := by
  refine ⟨rowAmo_of_arms .lrD ?_ ?_ ?_, rowAmo_of_arms .scD ?_ ?_ ?_, rowAmo_of_arms .amoswapD ?_ ?_ ?_,
    rowAmo_of_arms .amoaddD ?_ ?_ ?_, rowAmo_of_arms .amoxorD ?_ ?_ ?_, rowAmo_of_arms .amoandD ?_ ?_ ?_,
    rowAmo_of_arms .amoorD ?_ ?_ ?_, rowAmo_of_arms .amominD ?_ ?_ ?_, rowAmo_of_arms .amomaxD ?_ ?_ ?_,
    rowAmo_of_arms .amominuD ?_ ?_ ?_, rowAmo_of_arms .amomaxuD ?_ ?_ ?_⟩ <;> intros <;> rfl

end Sys2Proof.Machine
end

section
/-! Branches and jumps (45_control_transfer.md). -/

namespace Sys2Proof.Machine

open Sys2Proof.Safety

/-- A row of the branch shape, from its arm of `Mnemonic.instr`, its arm of `exec` and its token. -/
theorem rowB_of_arms (m : Mnemonic) {mk : Reg → Reg → Imm → Instr} {token : String}
    (hinstr : ∀ w, m.instr w = mk (rs1Of w) (rs2Of w) (immBOf w))
    (hexec : ∀ rs1 rs2 imm s, exec (mk rs1 rs2 imm) s = .next (s.deliver (recB m rs1 rs2 imm)))
    (ht : tokenOf nameRom m.code = some (ascii token)) : RowB mk m.code token m.row.wordMatch m.row.wordMask := by
  refine ⟨rowEncoding_of_instr m hinstr, fun rs1 rs2 imm => ?_⟩
  simpa only [recB, regText_some, regText_none, immText_eq_iText, List.append_nil] using
    rowDelivers_of_exec (hexec rs1 rs2 imm) ht

/-- A row of the jump shape, likewise. -/
theorem rowJ_of_arms (m : Mnemonic) {mk : Reg → Imm → Instr} {token : String}
    (hinstr : ∀ w, m.instr w = mk (rdOf w) (immJOf w))
    (hexec : ∀ rd imm s, exec (mk rd imm) s = .next (s.deliver (recJ m rd imm)))
    (ht : tokenOf nameRom m.code = some (ascii token)) : RowJ mk m.code token m.row.wordMatch m.row.wordMask := by
  refine ⟨rowEncoding_of_instr m hinstr, fun rd imm => ?_⟩
  simpa only [recJ, regText_some, regText_none, immText_eq_iText, List.append_nil] using
    rowDelivers_of_exec (hexec rd imm) ht

/-- Settles O24: each branch's opcode and funct3 make its match and mask, and its arms are those of the shape. -/
theorem branchRows : Obligations.BranchRows := by
  refine ⟨rowB_of_arms .beq ?_ ?_ ?_, rowB_of_arms .bne ?_ ?_ ?_, rowB_of_arms .blt ?_ ?_ ?_,
    rowB_of_arms .bge ?_ ?_ ?_, rowB_of_arms .bltu ?_ ?_ ?_, rowB_of_arms .bgeu ?_ ?_ ?_⟩ <;> intros <;> rfl

/-- Settles O25: each jump's opcode alone makes its match and mask, JALR's funct3 staying unexamined, and its arms are those
of its shape. -/
theorem jumpRows : Obligations.JumpRows := by
  refine ⟨rowI_of_arms .jalr ?_ ?_ ?_, rowJ_of_arms .jal ?_ ?_ ?_⟩ <;> intros <;> rfl

end Sys2Proof.Machine
end

section
/-! System and fence rows (46_system_misc_mem.md). -/

namespace Sys2Proof.Machine

open Sys2Proof.Safety

/-- Settles O26: each row's opcode and funct3 make its match and mask, and its arms are those of the shape. -/
theorem systemRows : Obligations.SystemRows := by
  refine ⟨rowI_of_arms .ecall ?_ ?_ ?_, rowI_of_arms .csrrw ?_ ?_ ?_, rowI_of_arms .csrrs ?_ ?_ ?_,
    rowI_of_arms .csrrc ?_ ?_ ?_, rowI_of_arms .csrrwi ?_ ?_ ?_, rowI_of_arms .csrrsi ?_ ?_ ?_,
    rowI_of_arms .csrrci ?_ ?_ ?_⟩ <;> intros <;> rfl

/-- Settles O27: the fences share their opcode, funct3 tells them apart, and their arms are those of the shape. -/
theorem fenceRows : Obligations.FenceRows := by
  refine ⟨rowI_of_arms .fence ?_ ?_ ?_, rowI_of_arms .fencei ?_ ?_ ?_⟩ <;> intros <;> rfl

end Sys2Proof.Machine
end

section
/-! Which decodes are Partial and which are Undefined (60_exceptions.md R350, R352). -/

namespace Sys2Proof

open Sys2Proof.Safety

/-- Too few bytes for the length tests, or for the word after they passed (60_exceptions.md R350). -/
theorem decode_partialInput_iff {rom : MnemRom} {n : Nat} {f : Nat → Byte} :
    decode rom n f = .partialInput ↔ n < 2 ∨ (n < 4 ∧ ¬Compressed (f 0) ∧ ¬OverLength (f 0)) := by
  rcases Nat.lt_or_ge n 2 with h2 | h2
  · exact iff_of_true (decode_of_lt_two h2) (.inl h2)
  by_cases hc : Compressed (f 0)
  · simp [decode_of_compressed h2 hc, hc, Nat.not_lt.2 h2]
  by_cases ho : OverLength (f 0)
  · simp [decode_of_overLength h2 hc ho, ho, Nat.not_lt.2 h2]
  rcases Nat.lt_or_ge n 4 with h4 | h4
  · exact iff_of_true (decode_of_incomplete h4 hc ho) (.inr ⟨h4, hc, ho⟩)
  · rw [decode_of_complete h4 hc ho]
    cases romLookup rom (opcodeOf (wordAt f)) (funct3Of (wordAt f)) (funct7Of (wordAt f)) <;>
      simp [Nat.not_lt.2 h2, Nat.not_lt.2 h4]

/-- A failed length test, or a complete word without a row (60_exceptions.md R352). -/
theorem decode_undefinedWord_iff {rom : MnemRom} {n : Nat} {f : Nat → Byte} :
    (∃ why, decode rom n f = .undefinedWord why) ↔ 2 ≤ n ∧ (Compressed (f 0) ∨ OverLength (f 0) ∨
      (4 ≤ n ∧ romLookup rom (opcodeOf (wordAt f)) (funct3Of (wordAt f)) (funct7Of (wordAt f)) = none)) := by
  rcases Nat.lt_or_ge n 2 with h2 | h2
  · simp [decode_of_lt_two h2, Nat.not_le.2 h2]
  rcases Nat.lt_or_ge n 4 with h4 | h4
  · by_cases hc : Compressed (f 0)
    · exact iff_of_true ⟨_, decode_of_compressed h2 hc⟩ ⟨h2, .inl hc⟩
    by_cases ho : OverLength (f 0)
    · exact iff_of_true ⟨_, decode_of_overLength h2 hc ho⟩ ⟨h2, .inr (.inl ho)⟩
    simp [decode_of_incomplete h4 hc ho, hc, ho, Nat.not_le.2 h4]
  · rw [decode_undefined_iff h4]
    simp only [h2, h4, true_and]

end Sys2Proof
end

section
/-! What a step that serves a decode answers, by what the decode finds; and the bytes it reads when the caller changes
them (60_exceptions.md R350, R352, 70_reset_and_hazards.md R386). -/

namespace Sys2Proof.Machine

open Sys2Proof.Safety

/-- The answer to a decode is Partial exactly when the decode is. -/
theorem partialInput_iff_of_answers {d : Decoded} {a : Option Answer} (h : Answers d a) :
    a = some .partialInput ↔ d = .partialInput := by
  cases d with
  | ok i => obtain ⟨r, -, rfl⟩ := h; simp
  | partialInput => exact iff_of_true h rfl
  | undefinedWord why => obtain rfl : a = some .undefined := h; simp

/-- The answer to a decode is Undefined exactly when the decode is, for whatever cause. -/
theorem undefined_iff_of_answers {d : Decoded} {a : Option Answer} (h : Answers d a) :
    a = some .undefined ↔ ∃ why, d = .undefinedWord why := by
  cases d with
  | ok i => obtain ⟨r, -, rfl⟩ := h; simp
  | partialInput => obtain rfl : a = some .partialInput := h; simp
  | undefinedWord why => exact iff_of_true h ⟨why, rfl⟩

/-- A step that serves a decode puts the answer to it on the outputs, and takes it from the queue. -/
theorem exists_step_decode {s : State} {q : DecodeReq} {rest : List Request} (hp : s.pending = .decode q :: rest) :
    ∃ t, step s = .next t ∧ Answers (decode s.mnemRom q.inLen (inByte s q)) t.decoded ∧ t.pending = rest := by
  obtain ⟨a, ha⟩ := exists_answers (fetch s q)
  exact ⟨_, step_decode_of_answers hp ha, ha, rfl⟩

/-- Settles O8: the answer is Partial when the decode is. -/
theorem partialIsAnsweredExactlyWhen : Obligations.PartialIsAnsweredExactlyWhen := by
  intro s q rest hp
  obtain ⟨t, hstep, ha, -⟩ := exists_step_decode hp
  exact ⟨t, hstep, (partialInput_iff_of_answers ha).trans decode_partialInput_iff⟩

/-- Settles O9: the answer is Undefined when the decode is. -/
theorem undefinedIsAnsweredExactlyWhen : Obligations.UndefinedIsAnsweredExactlyWhen := by
  intro s q rest hp
  obtain ⟨t, hstep, ha, -⟩ := exists_step_decode hp
  exact ⟨t, hstep, (undefined_iff_of_answers ha).trans decode_undefinedWord_iff⟩

/-- The values that a cell takes during a decode are those that the caller's changes list for it. -/
theorem mem_newBytes_iff {q : DecodeReq} {i : Nat} {b : Byte} : b ∈ q.newBytes i ↔ (i, b) ∈ q.changes := by
  simp [DecodeReq.newBytes]

/-- A draw among the old value and the new ones is one of them. -/
theorem getD_mod_mem (old : Byte) (news : List Byte) (draw : Nat) :
    (old :: news).getD (draw % (news.length + 1)) 0 ∈ old :: news := by
  have hlt : draw % (news.length + 1) < (old :: news).length := Nat.mod_lt _ (Nat.succ_pos _)
  rw [List.getD_eq_getElem _ _ hlt]
  exact List.getElem_mem hlt

/-- A cell that is not overlapped is read as the byte supplied or as one of the values it changes to. -/
theorem inByte_supplied_or_changed {s : State} {q : DecodeReq} {i : Nat} (h : i ∉ q.overlap) :
    inByte s q i = suppliedByte s q i ∨ (i, inByte s q i) ∈ q.changes := by
  rw [← mem_newBytes_iff, inByte, if_neg h]
  cases q.newBytes i with
  | nil => exact .inl rfl
  | cons b bs => exact List.mem_cons.1 (getD_mod_mem _ _ _)

/-- Settles O44: the mix is the bytes that the decode reads. -/
theorem unstableDecodeIsSomeMix : Obligations.UnstableDecodeIsSomeMix := by
  intro s q rest hp
  obtain ⟨t, hstep, ha, -⟩ := exists_step_decode hp
  refine ⟨inByte s q, t, hstep, ha, fun i hi => ?_⟩
  rcases inByte_supplied_or_changed (s := s) hi with hsupplied | hchanged
  · cases hread : s.inMem.read (q.base + i) with
    | none => exact .inr (.inr rfl)
    | some b => exact .inl (by rw [hsupplied, suppliedByte_present hread])
  · exact .inr (.inl hchanged)

end Sys2Proof.Machine
end

section
/-! The cells of a served format: which the writer fills, and which it leaves (48_formatter.md R311, R321 to R323, R331). -/

namespace Sys2Proof.Machine

open Sys2Proof.Safety

/-- A writer with capacity 0 leaves the output storage as it was, and no cell of an empty buffer is shared
(48_formatter.md R311). -/
theorem State.afterFormat_outMem_of_cap_zero {s : State} {q : FormatReq} {rest : List Request} (h : q.cap = 0) :
    (s.afterFormat q rest).outMem = s.outMem := by
  simp [State.afterFormat_outMem, h, freeCells, Memory.writeRange, Memory.writeCells]

/-- Past the terminator the writer leaves every cell as it was (48_formatter.md R323). -/
theorem Memory.read_writeRange_boundedText_outside {cap base a : Nat} {text : List Byte} (m : Memory)
    (h : cap = 0 ∨ a < base ∨ base + min text.length (cap - 1) < a) :
    (m.writeRange base (boundedText cap text)).read a = m.read a := by
  rcases Nat.eq_zero_or_pos cap with rfl | hcap
  · rfl
  · exact Memory.read_writeRange_outside _ _ _ _ (by rw [boundedText_length cap text hcap]; omega)

/-- Settles O32: each cell is one that the writer fills with a character, one that it ends the text in, or one that it
does not reach. -/
theorem formatWritesATerminatedPrefix : Obligations.FormatWritesATerminatedPrefix := by
  intro s q rest hp
  refine ⟨_, step_format hp, fun hcap a => by rw [State.afterFormat_outMem_of_cap_zero hcap], ?_⟩
  rintro hcap S k rfl rfl
  refine ⟨fun i hi hik hshared => ?_, fun hshared => ?_, fun a ha hshared => ?_⟩ <;>
    rw [State.read_afterFormat_of_not_shared hshared]
  · exact Memory.read_writeRange_boundedText _ _ hi (by omega)
  · exact Memory.read_writeRange_boundedText_nul _ _ _ hcap
  · exact Memory.read_writeRange_boundedText_outside _ (.inr ha)

/-- Settles O33, by the frame of a format with capacity 0. -/
theorem formatWithCapacityZeroWritesNothing : Obligations.FormatWithCapacityZeroWritesNothing :=
  fun _ _ _ hp hcap => ⟨_, step_format hp, State.afterFormat_outMem_of_cap_zero hcap⟩

/-- A cell of a format of a given record that the writer fills. -/
theorem State.read_afterFormat_given_inside {s : State} {r : Record} {base cap i : Nat} {rest : List Request}
    (h : i < (boundedText cap (fullText s.nameRom r)).length) :
    (s.afterFormat { source := .given r, base := base, cap := cap } rest).outMem.read (base + i) =
      some (boundedText cap (fullText s.nameRom r))[i] := by
  rw [State.read_afterFormat_of_not_shared (not_shared_of_overlap_nil rfl _)]
  exact Memory.read_writeRange_inside _ _ _ _ h

/-- A cell that it does not fill. -/
theorem State.read_afterFormat_given_outside {s : State} {r : Record} {base cap a : Nat} {rest : List Request}
    (h : cap = 0 ∨ a < base ∨ base + min (fullText s.nameRom r).length (cap - 1) < a) :
    (s.afterFormat { source := .given r, base := base, cap := cap } rest).outMem.read a = s.outMem.read a := by
  rw [State.read_afterFormat_of_not_shared (not_shared_of_overlap_nil rfl _)]
  exact Memory.read_writeRange_boundedText_outside _ h

/-- Settles O40: both formats write the bounded text of one record. -/
theorem formatIgnoresOldContents : Obligations.FormatIgnoresOldContents := by
  intro s s' r cap base base' rest rest' hrom hp hp'
  refine ⟨_, _, _, step_format hp, step_format hp', rfl, fun i hcap hi => ?_,
    fun a => State.read_afterFormat_given_outside, fun a ha => State.read_afterFormat_given_outside (hrom ▸ ha)⟩
  have hlen : i < (boundedText cap (fullText s.nameRom r)).length := by
    rw [boundedText_length cap _ hcap]
    omega
  rw [State.read_afterFormat_given_inside hlen, State.read_afterFormat_given_inside (hrom ▸ hlen)]
  simp only [hrom]

end Sys2Proof.Machine
end

section
/-! The full text of a record by its token, and the codes without one (48_formatter.md R312 to R318, R326). -/

namespace Sys2Proof.Machine

open Sys2Proof.Safety

theorem fullText_of_tokenOf_none {rom : NameRom} {r : Record} (h : tokenOf rom r.mnemonic = none) :
    fullText rom r = placeholder := by
  rw [fullText, h]

theorem fullText_of_tokenOf_some {rom : NameRom} {r : Record} {token : List Byte}
    (h : tokenOf rom r.mnemonic = some token) :
    fullText rom r =
      token ++ regText r.rd ++ regText r.rs1 ++ regText r.rs2 ++ regText r.rs3 ++ immText r.imm := by
  rw [fullText, h]

/-- The texts of fields, of which absent ones have none. -/
theorem flatMap_rText_filterMap (fields : List (Option Reg)) :
    (fields.filterMap id).flatMap rText = fields.flatMap regText := by
  induction fields with
  | nil => rfl
  | cons o fields ih =>
    rw [List.flatMap_cons, ← ih]
    cases o <;> rfl

/-- Settles O37: an absent field has no text, so the present ones are all there is to print. -/
theorem fullTextOfAnyRecord : Obligations.FullTextOfAnyRecord := by
  refine fun rom r => ⟨fullText_of_tokenOf_none, fun token h => ?_⟩
  rw [fullText_of_tokenOf_some h, flatMap_rText_filterMap, immText_eq_iText]
  simp

/-- A code has no token when no row of the ROM has the code. -/
theorem tokenOf_eq_none_iff {rom : NameRom} {code : MnemCode} :
    tokenOf rom code = none ↔ code.toNat ∉ rom.map (·.code.toNat) := by
  simp [tokenOf, BitVec.toNat_inj]

/-- The codes of the default ROM are 1 to 93, in order. -/
theorem nameRom_codes : nameRom.map (·.code.toNat) = List.range' 1 93 := rfl

theorem tokenOf_nameRom_eq_none_iff {code : MnemCode} :
    tokenOf nameRom code = none ↔ code = 0 ∨ 94 ≤ code.toNat := by
  have hzero : code = 0 ↔ code.toNat = 0 := BitVec.toNat_inj.symm
  rw [tokenOf_eq_none_iff, nameRom_codes, List.mem_range'_1, hzero]
  omega

/-- Settles O35: the codes of the ROM's rows are 1 to 93, and the text of any other code is the placeholder. -/
theorem unknownCodesPrintThePlaceholder : Obligations.UnknownCodesPrintThePlaceholder :=
  ⟨fun _ _ => fullText_of_tokenOf_none, fun _ => tokenOf_nameRom_eq_none_iff,
    fun _ h => fullText_of_tokenOf_none (tokenOf_nameRom_eq_none_iff.2 h), rfl, fun _ h => boundedText_of_pos h _⟩

end Sys2Proof.Machine
end

section
/-! Decimal texts are digits without a leading zero (48_formatter.md R316, R319, R320). -/

namespace Sys2Proof.Machine

open Sys2Proof.Safety

/-- A positive value has a first digit, which is not 0. -/
theorem exists_head?_digits {fuel n : Nat} (hpos : 0 < n) (h : n < 10 ^ fuel) :
    ∃ c, (digits fuel n).head? = some c ∧ c ≠ 0x30 := by
  induction fuel generalizing n with
  | zero => omega
  | succ fuel ih =>
    rw [digits]
    split
    · next hn =>
      refine ⟨digit n, rfl, fun hc => hpos.ne' ?_⟩
      have hval : (0x30 : Byte).toNat = 0x30 + n := hc ▸ digit_toNat hn
      exact (Nat.add_left_cancel hval).symm
    · obtain ⟨c, hhead, hc⟩ := ih (n := n / 10) (by omega) (by omega)
      exact ⟨c, by rw [List.head?_append, hhead]; rfl, hc⟩

/-- A decimal text below ten digits' limit is well formed. -/
theorem isDecimal_dec {n : Nat} (h : n < 10 ^ 10) : IsDecimal (dec n) := by
  rcases Nat.eq_zero_or_pos n with rfl | hpos
  · exact ⟨by decide, by decide, fun _ => rfl⟩
  obtain ⟨c, hhead, hc⟩ := exists_head?_digits hpos h
  refine ⟨fun hnil => ?_, fun b hb => ?_, fun h0 => absurd (Option.some.inj (hhead.symm.trans h0)) hc⟩
  · rw [dec] at hnil
    simp [hnil] at hhead
  · by_contra hout
    exact notMem_dec (by omega) n hb

theorem readDec_dec {n : Nat} (h : n < 10 ^ 10) : readDec (dec n) = n := readDec_digits h

/-- Settles O36: the text of an immediate is its sign and the decimal text of its magnitude. -/
theorem decimalTextReadsBack : Obligations.DecimalTextReadsBack := by
  refine ⟨fun v hv => ?_, fun v hv => ⟨_, sdec_of_neg hv, isDecimal_dec (natAbs_toInt_lt v), ?_⟩, fun n =>
    ⟨isDecimal_dec (by omega), readDec_dec (by omega)⟩, by decide⟩
  · rw [sdec_of_nonneg hv, readDec_dec (natAbs_toInt_lt v)]
    exact ⟨isDecimal_dec (natAbs_toInt_lt v), Int.natAbs_of_nonneg hv⟩
  · rw [readDec_dec (natAbs_toInt_lt v)]
    omega

end Sys2Proof.Machine
end

section
/-! The characters of a text (48_formatter.md R324). -/

namespace Sys2Proof.Machine

open Sys2Proof.Safety

/-- The characters of the tokens: a lowercase letter or the dot (48_formatter.md R314). -/
def isTokenChar (c : Byte) : Bool := c == 0x2E || (Nat.ble 0x61 c.toNat && Nat.ble c.toNat 0x7A)

theorem isTextChar_of_isTokenChar {c : Byte} (h : isTokenChar c = true) : IsTextChar c := by
  simp only [isTokenChar, Bool.or_eq_true, Bool.and_eq_true, beq_iff_eq, Nat.ble_eq] at h
  rcases h with hdot | hletter
  · exact .inr (.inr (.inl hdot))
  · exact .inl hletter

theorem nameRom_all_isTokenChar : (nameRom.all fun row => row.token.all isTokenChar) = true := by decide

/-- Every token of the default ROM is made of the listed characters. -/
theorem isTextChar_nameRom_token {row : NameRow} (hrow : row ∈ nameRom) : ∀ c ∈ row.token, IsTextChar c := fun c hc =>
  isTextChar_of_isTokenChar (List.all_eq_true.1 (List.all_eq_true.1 nameRom_all_isTokenChar row hrow) c hc)

theorem isTextChar_placeholder : ∀ c ∈ placeholder, IsTextChar c := by
  unfold IsTextChar
  decide

theorem isTextChar_space : IsTextChar 0x20 := by simp [IsTextChar]

theorem isTextChar_minus : IsTextChar 0x2D := by simp [IsTextChar]

theorem isTextChar_r : IsTextChar 0x72 := by simp [IsTextChar]

theorem isTextChar_dec {n : Nat} {c : Byte} (h : c ∈ dec n) : IsTextChar c := by
  by_contra hc
  simp only [IsTextChar, not_or] at hc
  exact notMem_dec (by omega) n h

theorem isTextChar_sdec {v : Imm} {c : Byte} (h : c ∈ sdec v) : IsTextChar c := by
  rcases lt_or_ge v.toInt 0 with hv | hv
  · rw [sdec_of_neg hv] at h
    rcases List.mem_cons.1 h with rfl | h
    · exact isTextChar_minus
    · exact isTextChar_dec h
  · rw [sdec_of_nonneg hv] at h
    exact isTextChar_dec h

theorem isTextChar_of_mem_regWords {o : Option Reg} {w : List Byte} (h : w ∈ regWords o) : ∀ c ∈ w, IsTextChar c := by
  obtain ⟨n, -, rfl⟩ := List.mem_map.1 h
  exact List.forall_mem_append.2 ⟨List.forall_mem_singleton.2 isTextChar_r, fun _ => isTextChar_dec⟩

theorem isTextChar_of_mem_immWords {v : Imm} {w : List Byte} (h : w ∈ immWords v) : ∀ c ∈ w, IsTextChar c := by
  rw [immWords] at h
  split at h
  · simp at h
  · exact List.mem_singleton.1 h ▸ fun _ => isTextChar_sdec

theorem isTextChar_of_mem_operandWords {r : Record} {w : List Byte} (h : w ∈ operandWords r) :
    ∀ c ∈ w, IsTextChar c := by
  simp only [operandWords, List.mem_append] at h
  rcases h with (((h | h) | h) | h) | h
  iterate 4 exact isTextChar_of_mem_regWords h
  exact isTextChar_of_mem_immWords h

/-- A full text is the placeholder, or its words with spaces before all but the first. -/
theorem isTextChar_fullText {r : Record} : ∀ c ∈ fullText nameRom r, IsTextChar c := by
  cases ht : tokenOf nameRom r.mnemonic with
  | none => exact fullText_of_tokenOf_none ht ▸ isTextChar_placeholder
  | some token =>
    obtain ⟨row, hrow, -, rfl⟩ := tokenOf_eq_some ht
    rw [fullText_eq_intercalate ht, intercalate_space_cons]
    refine List.forall_mem_append.2 ⟨isTextChar_nameRom_token hrow, fun c hc => ?_⟩
    obtain ⟨w, hw, hcw⟩ := List.mem_flatMap.1 hc
    exact List.forall_mem_cons.2 ⟨isTextChar_space, isTextChar_of_mem_operandWords hw⟩ c hcw

/-- The bounded writer adds the terminator alone. -/
theorem mem_or_eq_nul_of_mem_boundedText {cap : Nat} {text : List Byte} {c : Byte} (h : c ∈ boundedText cap text) :
    c ∈ text ∨ c = 0x00 := by
  rcases Nat.eq_zero_or_pos cap with rfl | hcap
  · simp at h
  · rw [boundedText_of_pos hcap, List.mem_append, List.mem_singleton] at h
    exact h.imp_left List.mem_of_mem_take

/-- Settles O39: the words of a text, the spaces between them and the placeholder are made of these characters. -/
theorem textUsesOnlyTheListedCharacters : Obligations.TextUsesOnlyTheListedCharacters :=
  ⟨fun _ => isTextChar_fullText, fun _ _ c h => (mem_or_eq_nul_of_mem_boundedText h).imp_left (isTextChar_fullText c)⟩

end Sys2Proof.Machine
end

section
/-! The lengths that the parts of a decoded record's text do not exceed, by shape (48_formatter.md R330). -/

namespace Sys2Proof

/-- A length that no token of a shape's mnemonics exceeds. -/
def Shape.tokenLength : Shape → Nat
  | .amo => 9
  | .r | .i | .s | .b | .u | .j | .sh => 6

/-- A length that the text of a shape's immediate does not exceed. -/
def Shape.immLength : Shape → Nat
  | .r => 0
  | .amo => 2
  | .sh => 3
  | .i | .s | .b => 6
  | .u | .j => 12

/-- The parts of a text of the shape take 23 characters at most. -/
theorem Shape.lengths_le (shape : Shape) :
    shape.tokenLength + 4 * (shape.hasRd.toNat + shape.hasRs1.toNat + shape.hasRs2.toNat) + shape.immLength ≤ 23 := by
  cases shape <;> decide

end Sys2Proof
end

section
/-! The length of a text (48_formatter.md R330). -/

namespace Sys2Proof.Machine

open Sys2Proof.Safety

/-- A value below `10 ^ k` has at most `k` digits, and 0 has one. -/
theorem length_digits_le {fuel k n : Nat} (hk : 0 < k) (h : n < 10 ^ k) : (digits fuel n).length ≤ k := by
  induction fuel generalizing k n with
  | zero => exact Nat.zero_le _
  | succ fuel ih =>
    rw [digits]
    split
    · exact hk
    · obtain ⟨j, rfl⟩ := Nat.exists_eq_succ_of_ne_zero hk.ne'
      have hj : 0 < j := Nat.pos_of_ne_zero fun h0 => by subst h0; omega
      have hrest := ih (n := n / 10) hj (by omega)
      simpa using hrest

theorem length_dec_le {k n : Nat} (hk : 0 < k) (h : n < 10 ^ k) : (dec n).length ≤ k := length_digits_le hk h

/-- A register field takes a space, the `r` and two digits at most, and none when it is absent. -/
theorem length_regText_le (o : Option Reg) : (regText o).length ≤ 4 * o.isSome.toNat := by
  cases o with
  | none => rfl
  | some n =>
    have hdigits : (dec n.val).length ≤ 2 := length_dec_le (by decide) (by omega)
    have hlen : (regText (some n)).length = (dec n.val).length + 2 := by simp [regText, ascii]
    rw [hlen, Option.isSome_some, Bool.toNat_true]
    omega

/-- An immediate takes a space and its digits. -/
theorem length_immText_le_of_nonneg {v : Imm} {k : Nat} (hk : 0 < k) (hv : 0 ≤ v.toInt) (h : v.toInt.natAbs < 10 ^ k) :
    (immText v).length ≤ k + 1 := by
  rw [immText]
  split
  · exact Nat.zero_le _
  · rw [sdec_of_nonneg hv]
    simpa [ascii] using length_dec_le hk h

/-- A negative one takes a sign too. -/
theorem length_immText_le {v : Imm} {k : Nat} (hk : 0 < k) (h : v.toInt.natAbs < 10 ^ k) :
    (immText v).length ≤ k + 2 := by
  rcases lt_or_ge v.toInt 0 with hv | hv
  · rw [immText]
    split
    · exact Nat.zero_le _
    · rw [sdec_of_neg hv]
      simpa [ascii] using length_dec_le hk h
  · exact (length_immText_le_of_nonneg hk hv h).trans (Nat.le_succ _)

/-- A text is no longer than its parts, and the placeholder no longer than the longest token. -/
theorem length_fullText_le_of_parts {rom : NameRom} {r : Record} {n : Nat} (hn : 9 ≤ n)
    (h : ∀ token, tokenOf rom r.mnemonic = some token →
      token.length + 4 * (r.rd.isSome.toNat + r.rs1.isSome.toNat + r.rs2.isSome.toNat + r.rs3.isSome.toNat) +
        (immText r.imm).length ≤ n) :
    (fullText rom r).length ≤ n := by
  cases ht : tokenOf rom r.mnemonic with
  | none => exact fullText_of_tokenOf_none ht ▸ hn
  | some token =>
    have hsum := h token ht
    have hrd := length_regText_le r.rd
    have hrs1 := length_regText_le r.rs1
    have hrs2 := length_regText_le r.rs2
    have hrs3 := length_regText_le r.rs3
    rw [fullText_of_tokenOf_some ht]
    simp only [List.length_append]
    omega

theorem length_nameRom_token_le : ∀ row ∈ nameRom, row.token.length ≤ 9 := by decide

/-- Nine characters of token, four fields, and the immediate of ten digits with its sign. -/
theorem length_fullText_nameRom_le (r : Record) : (fullText nameRom r).length ≤ 37 := by
  refine length_fullText_le_of_parts (by decide) fun token ht => ?_
  obtain ⟨row, hrow, -, rfl⟩ := tokenOf_eq_some ht
  have htoken := length_nameRom_token_le row hrow
  have himm := length_immText_le (by decide) (natAbs_toInt_lt r.imm)
  have hrd := r.rd.isSome.toNat_le
  have hrs1 := r.rs1.isSome.toNat_le
  have hrs2 := r.rs2.isSome.toNat_le
  have hrs3 := r.rs3.isSome.toNat_le
  omega

theorem length_tokenOf_nameRom_le (m : Mnemonic) :
    ∀ token ∈ tokenOf nameRom m.code, token.length ≤ m.shape.tokenLength := by
  cases m <;> decide

theorem length_immText_le_of_inRange {shape : Shape} {v : Imm} (h : immInRange shape v) :
    (immText v).length ≤ shape.immLength := by
  cases shape with
  | r => exact h ▸ le_rfl
  | i | s | b => exact length_immText_le (v := v) (k := 4) (by decide) (by simp only [immInRange] at h; omega)
  | u | j => exact length_immText_le (by decide) (natAbs_toInt_lt v)
  | amo =>
    have hv := toInt_range_of_toNat_le h (by decide)
    exact length_immText_le_of_nonneg (k := 1) (by decide) hv.1 (by omega)
  | sh =>
    have hv := toInt_range_of_toNat_le h (by decide)
    exact length_immText_le_of_nonneg (k := 2) (by decide) hv.1 (by omega)

/-- A decoded record has the fields and the immediate of its row's shape, and the token of its row. -/
theorem length_fullText_le_of_decodedRecord {r : Record} (h : DecodedRecord r) : (fullText nameRom r).length ≤ 23 := by
  obtain ⟨m, hcode, hrd, hrs1, hrs2, hrs3, himm⟩ := h
  refine length_fullText_le_of_parts (by decide) fun token ht => ?_
  have htoken := length_tokenOf_nameRom_le m token (hcode ▸ ht)
  have himm := length_immText_le_of_inRange himm
  have hsum := m.shape.lengths_le
  rw [hrd, hrs1, hrs2, hrs3]
  simp only [Option.isSome_none, Bool.toNat_false]
  omega

/-- A text that fits before the terminator is not truncated (48_formatter.md R330). -/
theorem boundedText_of_length_lt {cap : Nat} {text : List Byte} (h : text.length < cap) :
    boundedText cap text = text ++ [0x00] := by
  rw [boundedText_of_pos (by omega), List.take_of_length_le (by omega)]

/-- The longest of all texts: the code of `amomaxu.w`, four present fields, and the least immediate. -/
def longestRecord : Record := ⟨65, some 31, some 31, some 31, some 31, 0x80000000⟩

/-- The longest of a decode's: the same mnemonic with its own fields. -/
def longestDecodedRecord : Record := recAmo .amomaxuW 31 31 31 3

theorem decodedRecord_longestDecodedRecord : DecodedRecord longestDecodedRecord :=
  ⟨.amomaxuW, rfl, rfl, rfl, rfl, rfl, Nat.le_refl 3⟩

/-- Settles O38: both bounds add up the parts' lengths, and are reached by the two longest records. -/
theorem textLengthsAreBounded : Obligations.TextLengthsAreBounded := by
  refine ⟨length_fullText_nameRom_le, ⟨longestRecord, by decide⟩, fun r cap hcap => ?_,
    fun r => length_fullText_le_of_decodedRecord, ⟨_, decodedRecord_longestDecodedRecord, by decide⟩,
    fun r cap hr hcap => ?_⟩
  · exact boundedText_of_length_lt ((Nat.lt_succ_of_le (length_fullText_nameRom_le r)).trans_le hcap)
  · exact boundedText_of_length_lt ((Nat.lt_succ_of_le (length_fullText_le_of_decodedRecord hr)).trans_le hcap)

end Sys2Proof.Machine
end

section
/-! Every request is served, in one step (70_reset_and_hazards.md R388, R389). -/

namespace Sys2Proof.Machine

open Sys2Proof.Safety

/-- One step serves the oldest request, whatever it is. -/
theorem exists_step_of_pending_cons {s : State} {r : Request} {rest : List Request} (hp : s.pending = r :: rest) :
    ∃ t, step s = .next t ∧ t.pending = rest := by
  cases r with
  | decode q =>
    obtain ⟨t, hstep, -, hrest⟩ := exists_step_decode hp
    exact ⟨t, hstep, hrest⟩
  | format q => exact ⟨_, step_format hp, rfl⟩

/-- As many steps as there are requests serve them all. -/
theorem exists_runs_pending_nil (s : State) : ∃ t, Runs s.pending.length s t ∧ t.pending = [] := by
  induction hp : s.pending generalizing s with
  | nil => exact ⟨s, runs_zero s, hp⟩
  | cons r rs ih =>
    obtain ⟨t, hstep, hpt⟩ := exists_step_of_pending_cons hp
    obtain ⟨u, hrun, hpu⟩ := ih t hpt
    exact ⟨u, runs_succ hstep hrun, hpu⟩

/-- The writer fills one cell for each character of the text and one for the terminator. -/
theorem length_boundedText_fullText_le (r : Record) (cap : Nat) :
    (boundedText cap (fullText nameRom r)).length ≤ min 38 cap := by
  refine le_min ?_ (boundedText_length_le cap _)
  rcases Nat.eq_zero_or_pos cap with rfl | hcap
  · exact Nat.zero_le _
  · have htext := length_fullText_nameRom_le r
    rw [boundedText_length cap _ hcap]
    omega

/-- Settles O42, by induction on the queue; the length bound is that of the longest text. -/
theorem everyRequestTerminates : Obligations.EveryRequestTerminates :=
  ⟨exists_runs_pending_nil, length_boundedText_fullText_le⟩

end Sys2Proof.Machine
end

section
/-! The state after reset (70_reset_and_hazards.md R380 to R382). -/

namespace Sys2Proof.Machine

/-- Settles O4: the empty storages are canonical, and reset sets both ROMs. -/
theorem resetMeetsTheInvariant : Obligations.ResetMeetsTheInvariant :=
  ⟨rfl, rfl, rfl, rfl, trivial⟩

/-- Settles O5: an empty storage holds no value in any cell. -/
theorem resetLeavesOnlyTheRoms : Obligations.ResetLeavesOnlyTheRoms :=
  ⟨rfl, rfl, rfl, rfl, Memory.read_nil, Memory.read_nil, rfl⟩

end Sys2Proof.Machine
end
